-- ==== Sys2Proof/Word.lean ====
section
/-! DEFINITION. The words of the wire and the records of a frame's fields (30_encoding.md R53 to R56): plain data, no
behaviour. Byte order and bit positions are decided in Machine/Bytes.lean and Machine/Flags.lean. -/

namespace Sys2Proof

/-- A byte, 8 bits (R9). -/
abbrev Byte := BitVec 8

/-- One 512-byte sector: what a storage port moves per call (R42) and one data window of a frame (R58). -/
abbrev Sector := Vector Byte 512

/-- An Ethernet MAC: six bytes in frame order, copied as they are and never read as an integer (R39). -/
structure Mac where
  b0 : Byte
  b1 : Byte
  b2 : Byte
  b3 : Byte
  b4 : Byte
  b5 : Byte
deriving DecidableEq, Repr

/-- The fields of the Ethernet and AoE headers (R53, R54), but for the R flag and the AoE command, which the frame's
form gives. -/
structure Header where
  dst       : Mac
  src       : Mac
  etype     : BitVec 16
  ver       : BitVec 4
  flagError : Bool
  flagsRsvd : BitVec 2
  error     : Byte
  major     : BitVec 16
  minor     : Byte
  tag       : BitVec 32
deriving DecidableEq, Repr

/-- The Query sub-header, bytes 24 to 31 (R55). -/
structure QuerySub where
  bufferCount     : BitVec 16
  firmwareVersion : BitVec 16
  sectorCount     : Byte
  aoeVer          : BitVec 4
  ccmd            : BitVec 4
  cslen           : BitVec 16
deriving DecidableEq, Repr

/-- The Issue sub-header, bytes 24 to 35 (R56), but for byte 27 (the ATA command or status). `lba` is the 24-bit
`i.lba` of bytes 28 to 30; `lba3` to `lba5` and the two reserved bytes are carried and never read. -/
structure IssueSub where
  aflags      : Byte
  errFeature  : Byte
  sectorCount : Byte
  lba         : BitVec 24
  lba3        : Byte
  lba4        : Byte
  lba5        : Byte
  rsvd0       : Byte
  rsvd1       : Byte
deriving DecidableEq, Repr

/-- What follows the AoE header in a Query frame. A frame of 24 bytes is long enough to be one (R98, R105), so the
sub-header may be cut short; after a whole one come the config string and any padding (R55, R60). -/
inductive QueryTail where
  /-- Fewer than 8 bytes follow the AoE header. -/
  | short (bytes : List Byte)
  /-- The whole sub-header, then the rest of the frame. -/
  | full (sub : QuerySub) (rest : List Byte)
deriving DecidableEq, Repr

/-- What follows the AoE header in an Issue response (R56 to R58), which the decoder of R140 to R142 may receive cut
short. -/
inductive IssueTail where
  /-- Fewer than 12 bytes follow the AoE header. -/
  | short (bytes : List Byte)
  /-- Byte 27 (the ATA status), the rest of the sub-header, then every byte from offset 36 on. -/
  | full (cmdStatus : Byte) (sub : IssueSub) (data : List Byte)
deriving DecidableEq, Repr

end Sys2Proof
end

