-- ==== Sys2Proof/Machine/Bytes.lean ====
section
/-! DEFINITION. The byte orders of 00_scope.md R10 and 20_memory.md R39: how an integer is read from consecutive bytes
(lowest offset first) and which bytes writing it stores. -/

namespace Sys2Proof

/-- `be16` of two consecutive bytes. -/
def be16 (b0 b1 : Byte) : BitVec 16 := b0 ++ b1
/-- `be32` of four consecutive bytes. -/
def be32 (b0 b1 b2 b3 : Byte) : BitVec 32 := b0 ++ b1 ++ b2 ++ b3
/-- `le24` of three consecutive bytes. -/
def le24 (b0 b1 b2 : Byte) : BitVec 24 := b2 ++ b1 ++ b0
/-- `le64` of eight consecutive bytes. -/
def le64 (b0 b1 b2 b3 b4 b5 b6 b7 : Byte) : BitVec 64 := b7 ++ b6 ++ b5 ++ b4 ++ b3 ++ b2 ++ b1 ++ b0

/-- Byte `k` of `v`, bits `8k + 7` down to `8k`. -/
def byteOf {w : Nat} (v : BitVec w) (k : Nat) : Byte := v.extractLsb' (8 * k) 8

/-- The bytes a big-endian 16-bit write stores. -/
def be16Bytes (v : BitVec 16) : List Byte := [byteOf v 1, byteOf v 0]
/-- The bytes a big-endian 32-bit write stores. -/
def be32Bytes (v : BitVec 32) : List Byte := [byteOf v 3, byteOf v 2, byteOf v 1, byteOf v 0]
/-- The bytes a little-endian 24-bit write stores. -/
def le24Bytes (v : BitVec 24) : List Byte := [byteOf v 0, byteOf v 1, byteOf v 2]
/-- The bytes a little-endian 64-bit write stores. -/
def le64Bytes (v : BitVec 64) : List Byte :=
  [byteOf v 0, byteOf v 1, byteOf v 2, byteOf v 3, byteOf v 4, byteOf v 5, byteOf v 6, byteOf v 7]

/-- A MAC's six bytes in frame order. -/
def Mac.toList (m : Mac) : List Byte := [m.b0, m.b1, m.b2, m.b3, m.b4, m.b5]

/-- `zeros(n)` (R9). -/
def zeros (n : Nat) : List Byte := List.replicate n 0#8

end Sys2Proof
end

