-- ==== Sys2Proof/Config.lean ====
section
/-! DEFINITION. The configuration of one block instance (00_scope.md R7, 10_state.md R23): fixed before reset, never
changed while the instance lives. The parameters the spec leaves OPEN are fields, so that a statement about every
state ranges over every value of them. The protocol's constants stand in Machine/Constants.lean. -/

namespace Sys2Proof

/-- The role an instance works in (R6). -/
inductive Role where
  | responder
  | initiator
deriving DecidableEq, Repr

/-- The parameters of R7 that are arguments of the model or OPEN. `txTimeout` is opaque to the block and only forwarded
(R118, R163); `clientMaxStray` is `none` for NONE, no limit. -/
structure Config where
  role              : Role
  cfgMajor          : BitVec 16
  cfgMinor          : BitVec 8
  cfgSectors        : BitVec 64
  maxSectors        : Nat
  rxMaxBytes        : Nat
  qcBufferCount     : BitVec 16
  qcFirmwareVersion : BitVec 16
  qcSectorCount     : BitVec 8
  txTimeout         : Nat
  announceOnInit    : Bool
  clientMaxStray    : Option Nat
deriving DecidableEq, Repr

/-- The ranges R7 gives: `MAX_SECTORS` is 1 to 255 and `RX_MAX_BYTES` is at least 24. -/
abbrev Config.wf (c : Config) : Prop :=
  1 ≤ c.maxSectors ∧ c.maxSectors ≤ 255 ∧ 24 ≤ c.rxMaxBytes

/-- The configuration of `State.reset`: the test configuration of 95_test_vectors.md section 0, with the defaults of R7
for `MAX_SECTORS` and `ANNOUNCE_ON_INIT`. DESIGN CHOICE (unsafe for a statement that rests on it): the spec fixes no
instance; notes/assumptions/4.md. `txTimeout` has no value in the spec; notes/assumptions/5.md. -/
def Config.standard : Config where
  role              := .responder
  cfgMajor          := 0x0001#16
  cfgMinor          := 0x02#8
  cfgSectors        := 1000000#64
  maxSectors        := 255
  rxMaxBytes        := 130596
  qcBufferCount     := 0x0010#16
  qcFirmwareVersion := 0x0001#16
  qcSectorCount     := 0x02#8
  txTimeout         := 0
  announceOnInit    := true
  clientMaxStray    := some 1

end Sys2Proof
end

