-- ==== Sys2Proof/Machine/Constants.lean ====
section
/-! DEFINITION. The constants of 00_scope.md R7 and R14. The spec gives their values and marks most of them as its own
general knowledge of AoE revision 11 and ATA (93_implementation_defined.md G1 to G13); notes/assumptions/15.md. -/

namespace Sys2Proof

/-- `AOE_ETHERTYPE`. -/
abbrev aoeEthertype : BitVec 16 := 0x88A2#16
/-- `AOE_VERSION`. -/
abbrev aoeVersion : BitVec 4 := 1#4
/-- `AOE_CMD_ISSUE`. -/
abbrev aoeCmdIssue : Byte := 0x00#8
/-- `AOE_CMD_QUERY`. -/
abbrev aoeCmdQuery : Byte := 0x01#8
/-- `ATA_IDENTIFY`. -/
abbrev ataCmdIdentify : Byte := 0xEC#8
/-- `ATA_READ_RETRY`. -/
abbrev ataCmdRead : Byte := 0x20#8
/-- `ATA_WRITE_RETRY`. -/
abbrev ataCmdWrite : Byte := 0x30#8
/-- The broadcast major (R13, R98). -/
abbrev majorBroadcast : BitVec 16 := 0xFFFF#16
/-- The broadcast minor (R13, R98). -/
abbrev minorBroadcast : Byte := 0xFF#8
/-- The W bit of `i.aflags` (R56), which a Write request sets (R135). -/
abbrev aflagWrite : Byte := 0x01#8
/-- `SECTOR_BYTES`. -/
abbrev sectorBytes : Nat := 512
/-- The length of the Ethernet and AoE headers (R53, R54). -/
abbrev aoeHeaderBytes : Nat := 24
/-- `ISSUE_HDR_BYTES`. -/
abbrev issueHdrBytes : Nat := 36
/-- `QUERY_RSP_BYTES`. -/
abbrev queryRspBytes : Nat := 32
/-- `IDENT_CAP_OFF`, the frame offset of identify word 100 (R57). -/
abbrev identCapOff : Nat := 236

/-- The broadcast MAC FF FF FF FF FF FF (R14). -/
def Mac.broadcast : Mac := ⟨0xFF#8, 0xFF#8, 0xFF#8, 0xFF#8, 0xFF#8, 0xFF#8⟩
/-- The empty address 00 00 00 00 00 00 (R14). -/
def Mac.empty : Mac := ⟨0#8, 0#8, 0#8, 0#8, 0#8, 0#8⟩

/-- `TXBUF_BYTES` (R7, R19). -/
def Config.txbufBytes (c : Config) : Nat := issueHdrBytes + sectorBytes * c.maxSectors

end Sys2Proof
end

