-- ==== Sys2Proof/Machine/Flags.lean ====
section
/-! DEFINITION. The bit fields of a frame: byte 14 (version, R flag, E flag, reserved bits, 30_encoding.md R54), byte 27
(the ATA status bits, R56) and byte 29 (aoe_ver and ccmd, R55). The block has no flag register (10_state.md R21), so
these are all the flags there are. A setter keeps the byte's other bits (40_codec.md R72 to R74, R83, R84, R90, R91). -/

namespace Sys2Proof

/-- Replace bit `k` of a byte. -/
def setBit (b : Byte) (k : Nat) (v : Bool) : Byte :=
  if v then b ||| (1#8 <<< k) else b &&& ~~~(1#8 <<< k)

/-- `aoe.ver` of byte 14, bits 7:4. -/
def verOf (b : Byte) : BitVec 4 := b.extractLsb' 4 4
/-- `aoe.flag_response` of byte 14, bit 3. -/
def flagResponseOf (b : Byte) : Bool := b.getLsbD 3
/-- `aoe.flag_error` of byte 14, bit 2. -/
def flagErrorOf (b : Byte) : Bool := b.getLsbD 2
/-- `aoe.flags_rsvd` of byte 14, bits 1:0. -/
def flagsRsvdOf (b : Byte) : BitVec 2 := b.extractLsb' 0 2
/-- Byte 14 with its version replaced (R72). -/
def withVer (b : Byte) (v : BitVec 4) : Byte := v ++ b.extractLsb' 0 4
/-- Byte 14 with its R flag replaced (R73). -/
def withFlagResponse (b : Byte) (v : Bool) : Byte := setBit b 3 v
/-- Byte 14 with its E flag replaced (R74). -/
def withFlagError (b : Byte) (v : Bool) : Byte := setBit b 2 v
/-- Byte 14 of its four fields (R54). -/
def byte14 (ver : BitVec 4) (flagResponse flagError : Bool) (rsvd : BitVec 2) : Byte :=
  ver ++ BitVec.ofBool flagResponse ++ BitVec.ofBool flagError ++ rsvd

/-- `q.aoe_ver` of byte 29, bits 7:4. -/
def aoeVerOf (b : Byte) : BitVec 4 := b.extractLsb' 4 4
/-- `q.ccmd` of byte 29, bits 3:0. -/
def ccmdOf (b : Byte) : BitVec 4 := b.extractLsb' 0 4
/-- Byte 29 with its aoe_ver replaced (R83). -/
def withAoeVer (b : Byte) (v : BitVec 4) : Byte := v ++ b.extractLsb' 0 4
/-- Byte 29 with its ccmd replaced (R84). -/
def withCcmd (b : Byte) (v : BitVec 4) : Byte := (b.extractLsb' 4 4 : BitVec 4) ++ v
/-- Byte 29 of its two fields (R55). -/
def byte29 (aoeVer ccmd : BitVec 4) : Byte := aoeVer ++ ccmd

/-- `i.status_device_ready` of byte 27, bit `ST_DRDY` = 6. -/
def deviceReadyOf (b : Byte) : Bool := b.getLsbD 6
/-- `i.status_error` of byte 27, bit `ST_ERR` = 0. -/
def statusErrorOf (b : Byte) : Bool := b.getLsbD 0
/-- Byte 27 with DRDY replaced (R90). -/
def withDeviceReady (b : Byte) (v : Bool) : Byte := setBit b 6 v
/-- Byte 27 with ERR replaced (R91). -/
def withStatusError (b : Byte) (v : Bool) : Byte := setBit b 0 v

end Sys2Proof
end

