-- ==== Sys2Proof/Machine/Fields.lean ====
section
/-! DEFINITION. The fields of a frame as they are read from its bytes (30_encoding.md R53 to R59): one reader per field,
over any byte reader `rd` (the inbound frame or the transmit buffer). No bound is checked here: the decoder checks the
length first, and the machine's accessors (Machine/Operands.lean) check every access (40_codec.md R68). -/

namespace Sys2Proof

/-- `eth.dst` (R69). -/
def ethDstOf (rd : Nat → Byte) : Mac := ⟨rd 0, rd 1, rd 2, rd 3, rd 4, rd 5⟩
/-- `eth.src` (R70). -/
def ethSrcOf (rd : Nat → Byte) : Mac := ⟨rd 6, rd 7, rd 8, rd 9, rd 10, rd 11⟩
/-- `eth.type` (R71). -/
def ethTypeOf (rd : Nat → Byte) : BitVec 16 := be16 (rd 12) (rd 13)
/-- `aoe.ver` (R72). -/
def aoeVersionOf (rd : Nat → Byte) : BitVec 4 := verOf (rd 14)
/-- `aoe.flag_response` (R73). -/
def aoeFlagResponseOf (rd : Nat → Byte) : Bool := flagResponseOf (rd 14)
/-- `aoe.flag_error` (R74). -/
def aoeFlagErrorOf (rd : Nat → Byte) : Bool := flagErrorOf (rd 14)
/-- `aoe.flags_rsvd` (R54). -/
def aoeFlagsRsvdOf (rd : Nat → Byte) : BitVec 2 := flagsRsvdOf (rd 14)
/-- `aoe.error` (R75). -/
def aoeErrorOf (rd : Nat → Byte) : Byte := rd 15
/-- `aoe.major` (R76). -/
def aoeMajorOf (rd : Nat → Byte) : BitVec 16 := be16 (rd 16) (rd 17)
/-- `aoe.minor` (R77). -/
def aoeMinorOf (rd : Nat → Byte) : Byte := rd 18
/-- `aoe.command` (R78). -/
def aoeCommandOf (rd : Nat → Byte) : Byte := rd 19
/-- `aoe.tag` (R79). -/
def aoeTagOf (rd : Nat → Byte) : BitVec 32 := be32 (rd 20) (rd 21) (rd 22) (rd 23)

/-- `q.buffer_count` (R80). -/
def qBufferCountOf (rd : Nat → Byte) : BitVec 16 := be16 (rd 24) (rd 25)
/-- `q.firmware_version` (R81). -/
def qFirmwareVersionOf (rd : Nat → Byte) : BitVec 16 := be16 (rd 26) (rd 27)
/-- `q.sector_count` (R82). -/
def qSectorCountOf (rd : Nat → Byte) : Byte := rd 28
/-- `q.aoe_ver` (R83). -/
def qAoeVerOf (rd : Nat → Byte) : BitVec 4 := aoeVerOf (rd 29)
/-- `q.ccmd` (R84). -/
def qCcmdOf (rd : Nat → Byte) : BitVec 4 := ccmdOf (rd 29)
/-- `q.cslen` (R85). -/
def qCslenOf (rd : Nat → Byte) : BitVec 16 := be16 (rd 30) (rd 31)

/-- `i.aflags` (R86). -/
def iAflagsOf (rd : Nat → Byte) : Byte := rd 24
/-- `i.err_feature` (R87). -/
def iErrFeatureOf (rd : Nat → Byte) : Byte := rd 25
/-- `i.sector_count` (R88). -/
def iSectorCountOf (rd : Nat → Byte) : Byte := rd 26
/-- `i.cmd_status` (R89). -/
def iCmdStatusOf (rd : Nat → Byte) : Byte := rd 27
/-- `i.status_device_ready` (R90). -/
def iDeviceReadyOf (rd : Nat → Byte) : Bool := deviceReadyOf (rd 27)
/-- `i.status_error` (R91). -/
def iStatusErrorOf (rd : Nat → Byte) : Bool := statusErrorOf (rd 27)
/-- `i.lba` (R92). -/
def iLbaOf (rd : Nat → Byte) : BitVec 24 := le24 (rd 28) (rd 29) (rd 30)

/-- `id.capacity` (R93). -/
def idCapacityOf (rd : Nat → Byte) : BitVec 64 :=
  le64 (rd 236) (rd 237) (rd 238) (rd 239) (rd 240) (rd 241) (rd 242) (rd 243)

/-- The `n` bytes from offset `o` on. -/
def bytesOf (o n : Nat) (rd : Nat → Byte) : List Byte := (List.range n).map (fun k => rd (o + k))

/-- The first byte of data window `k` (R58). -/
def windowOff (k : Nat) : Nat := issueHdrBytes + sectorBytes * k

/-- `data[k]` (R94): the 512 bytes of window `k`. -/
def windowOf (k : Nat) (rd : Nat → Byte) : Sector := ⟨(bytesOf (windowOff k) 512 rd).toArray, by simp [bytesOf]⟩

/-- The header fields of a frame (R53, R54). -/
def headerOf (rd : Nat → Byte) : Header where
  dst       := ethDstOf rd
  src       := ethSrcOf rd
  etype     := ethTypeOf rd
  ver       := aoeVersionOf rd
  flagError := aoeFlagErrorOf rd
  flagsRsvd := aoeFlagsRsvdOf rd
  error     := aoeErrorOf rd
  major     := aoeMajorOf rd
  minor     := aoeMinorOf rd
  tag       := aoeTagOf rd

/-- The Query sub-header of a frame (R55). -/
def querySubOf (rd : Nat → Byte) : QuerySub where
  bufferCount     := qBufferCountOf rd
  firmwareVersion := qFirmwareVersionOf rd
  sectorCount     := qSectorCountOf rd
  aoeVer          := qAoeVerOf rd
  ccmd            := qCcmdOf rd
  cslen           := qCslenOf rd

/-- The Issue sub-header of a frame, but for byte 27 (R56). -/
def issueSubOf (rd : Nat → Byte) : IssueSub where
  aflags      := iAflagsOf rd
  errFeature  := iErrFeatureOf rd
  sectorCount := iSectorCountOf rd
  lba         := iLbaOf rd
  lba3        := rd 31
  lba4        := rd 32
  lba5        := rd 33
  rsvd0       := rd 34
  rsvd1       := rd 35

end Sys2Proof
end

