-- ==== Sys2Proof/Syntax.lean ====
section
/-! DEFINITION. The instructions: the frames the block decodes, one constructor per row of spec/opcode_table.json
(30_encoding.md R61). A constructor's fields are the fields of the row, and the bytes after them. The R flag, the AoE
command and, where the row fixes it, the ATA command are given by the constructor. -/

namespace Sys2Proof

/-- A frame of one of the eight forms of the opcode table. -/
inductive Instr where
  /-- QUERY_CONFIG request (R105): R = 0, AoE command 0x01. -/
  | queryConfig (h : Header) (q : QueryTail)
  /-- ATA_IDENTIFY request (R106): R = 0, AoE command 0x00, ATA command 0xEC. -/
  | ataIdentify (h : Header) (sub : IssueSub) (data : List Byte)
  /-- ATA_READ_RETRY request (R107): R = 0, AoE command 0x00, ATA command 0x20. -/
  | ataReadRetry (h : Header) (sub : IssueSub) (data : List Byte)
  /-- ATA_WRITE_RETRY request (R110): R = 0, AoE command 0x00, ATA command 0x30; the data windows start `data`. -/
  | ataWriteRetry (h : Header) (sub : IssueSub) (data : List Byte)
  /-- ATA_UNSUPPORTED (R116): R = 0, AoE command 0x00, any other ATA command. -/
  | ataUnsupported (h : Header) (ata : Byte) (sub : IssueSub) (data : List Byte)
  /-- AOE_UNSUPPORTED (R117): R = 0, any other AoE command. -/
  | aoeUnsupported (h : Header) (command : Byte) (payload : List Byte)
  /-- QUERY_RESPONSE (R139): R = 1, AoE command 0x01. -/
  | queryResponse (h : Header) (q : QueryTail)
  /-- ATA_RESPONSE (R140 to R142): R = 1, AoE command 0x00. -/
  | ataResponse (h : Header) (r : IssueTail)
deriving DecidableEq, Repr

end Sys2Proof
end

