-- ==== Sys2Proof/WellFormed.lean ====
section
/-! DEFINITION. Which terms of `Instr` are frames: the two catch-all rows of spec/opcode_table.json exclude the commands
of the rows before them (30_encoding.md R61, first matching row), and a tail that is cut short is shorter than its
sub-header (R55, R56). Nothing else is asked: a field of any value is a frame's (40_codec.md R67). -/

namespace Sys2Proof

/-- A Query tail cut short has fewer than 8 bytes. -/
def QueryTail.wellFormed : QueryTail → Bool
  | .short bytes => decide (bytes.length < 8)
  | .full _ _    => true

/-- An Issue tail cut short has fewer than 12 bytes. -/
def IssueTail.wellFormed : IssueTail → Bool
  | .short bytes => decide (bytes.length < 12)
  | .full _ _ _  => true

/-- An ATA command outside the three supported ones (R63). -/
def unsupportedAta (c : Byte) : Bool := c != ataCmdIdentify && c != ataCmdRead && c != ataCmdWrite

/-- An AoE command outside the two supported ones (R63). -/
def unsupportedAoe (c : Byte) : Bool := c != aoeCmdQuery && c != aoeCmdIssue

/-- The frames of the opcode table. -/
def Instr.wellFormed : Instr → Bool
  | .queryConfig _ q          => q.wellFormed
  | .ataIdentify _ _ _        => true
  | .ataReadRetry _ _ _       => true
  | .ataWriteRetry _ _ _      => true
  | .ataUnsupported _ ata _ _ => unsupportedAta ata
  | .aoeUnsupported _ c _     => unsupportedAoe c
  | .queryResponse _ q        => q.wellFormed
  | .ataResponse _ r          => r.wellFormed

end Sys2Proof
end

