-- ==== Sys2Proof/Decode.lean ====
section
/-! DEFINITION. From an inbound frame's bytes to its form (30_encoding.md R60, R61), total on any bytes, and back. The
decoder tests `aoe.flag_response`, `aoe.command` and then `i.cmd_status`, the order R61 calls equivalent to the key
table, and reads `RX[27]` only in an Issue request of at least 36 bytes. -/

namespace Sys2Proof

/-- Why a frame has no form in the opcode table. The block still takes such a frame (Machine/Frames.lean). -/
inductive DecodeError where
  /-- `rx_len` < 24: the headers are not all there (R98). -/
  | shortFrame
  /-- An Issue request with `rx_len` < 36 (R103). -/
  | shortIssue (h : Header)
  /-- A response (R = 1) whose AoE command is neither Query nor Issue: no row of the table. -/
  | noRow (h : Header) (command : Byte)
deriving DecidableEq, Repr

/-- The byte reader of an inbound frame; `decode` reads only below `rx_len`. -/
def readerOf (rx : List Byte) (a : Nat) : Byte := rx.getD a 0#8

/-- The Query sub-header and what follows it, from the frame `rx`. -/
def queryTailOf (rx : List Byte) : QueryTail :=
  if rx.length < queryRspBytes then .short (rx.drop aoeHeaderBytes)
  else .full (querySubOf (readerOf rx)) (rx.drop queryRspBytes)

/-- The Issue sub-header and what follows it, from the response `rx`. -/
def issueTailOf (rx : List Byte) : IssueTail :=
  if rx.length < issueHdrBytes then .short (rx.drop aoeHeaderBytes)
  else .full (iCmdStatusOf (readerOf rx)) (issueSubOf (readerOf rx)) (rx.drop issueHdrBytes)

/-- An Issue request of at least 36 bytes, by its ATA command (R103). -/
def decodeIssue (rx : List Byte) : Instr :=
  let rd := readerOf rx
  if iCmdStatusOf rd = ataCmdIdentify then .ataIdentify (headerOf rd) (issueSubOf rd) (rx.drop issueHdrBytes)
  else if iCmdStatusOf rd = ataCmdRead then .ataReadRetry (headerOf rd) (issueSubOf rd) (rx.drop issueHdrBytes)
  else if iCmdStatusOf rd = ataCmdWrite then .ataWriteRetry (headerOf rd) (issueSubOf rd) (rx.drop issueHdrBytes)
  else .ataUnsupported (headerOf rd) (iCmdStatusOf rd) (issueSubOf rd) (rx.drop issueHdrBytes)

/-- The form of an inbound frame, or why it has none. -/
def decode (rx : List Byte) : Except DecodeError Instr :=
  let rd := readerOf rx
  if rx.length < aoeHeaderBytes then .error .shortFrame
  else if aoeFlagResponseOf rd then
    if aoeCommandOf rd = aoeCmdQuery then .ok (.queryResponse (headerOf rd) (queryTailOf rx))
    else if aoeCommandOf rd = aoeCmdIssue then .ok (.ataResponse (headerOf rd) (issueTailOf rx))
    else .error (.noRow (headerOf rd) (aoeCommandOf rd))
  else if aoeCommandOf rd = aoeCmdQuery then .ok (.queryConfig (headerOf rd) (queryTailOf rx))
  else if aoeCommandOf rd = aoeCmdIssue then
    if rx.length < issueHdrBytes then .error (.shortIssue (headerOf rd)) else .ok (decodeIssue rx)
  else .ok (.aoeUnsupported (headerOf rd) (aoeCommandOf rd) (rx.drop aoeHeaderBytes))

/-! ### The encoder, from the same tables -/

/-- Bytes 0 to 23 of a frame (R53, R54). -/
def encodeHeader (flagResponse : Bool) (command : Byte) (h : Header) : List Byte :=
  h.dst.toList ++ h.src.toList ++ be16Bytes h.etype ++ [byte14 h.ver flagResponse h.flagError h.flagsRsvd, h.error]
    ++ be16Bytes h.major ++ [h.minor, command] ++ be32Bytes h.tag

/-- Bytes 24 to 31 of a Query frame (R55). -/
def encodeQuerySub (q : QuerySub) : List Byte :=
  be16Bytes q.bufferCount ++ be16Bytes q.firmwareVersion ++ [q.sectorCount, byte29 q.aoeVer q.ccmd] ++ be16Bytes q.cslen

/-- Bytes 24 to 35 of an Issue frame, byte 27 holding the ATA command or status (R56). -/
def encodeIssueSub (cmdStatus : Byte) (i : IssueSub) : List Byte :=
  [i.aflags, i.errFeature, i.sectorCount, cmdStatus] ++ le24Bytes i.lba
    ++ [i.lba3, i.lba4, i.lba5, i.rsvd0, i.rsvd1]

/-- Everything after the AoE header of a Query frame. -/
def encodeQueryTail : QueryTail → List Byte
  | .short bytes   => bytes
  | .full sub rest => encodeQuerySub sub ++ rest

/-- Everything after the AoE header of an Issue response. -/
def encodeIssueTail : IssueTail → List Byte
  | .short bytes              => bytes
  | .full cmdStatus sub data => encodeIssueSub cmdStatus sub ++ data

/-- The bytes of a frame. -/
def encode : Instr → List Byte
  | .queryConfig h q              => encodeHeader false aoeCmdQuery h ++ encodeQueryTail q
  | .ataIdentify h sub data       => encodeHeader false aoeCmdIssue h ++ (encodeIssueSub ataCmdIdentify sub ++ data)
  | .ataReadRetry h sub data      => encodeHeader false aoeCmdIssue h ++ (encodeIssueSub ataCmdRead sub ++ data)
  | .ataWriteRetry h sub data     => encodeHeader false aoeCmdIssue h ++ (encodeIssueSub ataCmdWrite sub ++ data)
  | .ataUnsupported h ata sub data => encodeHeader false aoeCmdIssue h ++ (encodeIssueSub ata sub ++ data)
  | .aoeUnsupported h c payload   => encodeHeader false c h ++ payload
  | .queryResponse h q            => encodeHeader true aoeCmdQuery h ++ encodeQueryTail q
  | .ataResponse h r              => encodeHeader true aoeCmdIssue h ++ encodeIssueTail r

/-! ### The opcode table over the dispatch key -/

/-- The dispatch key K of a frame: `RX[14]`, `RX[19]` and `RX[27]`, most significant first (R61). -/
def dispatchKey (rx : List Byte) : BitVec 24 := readerOf rx 14 ++ readerOf rx 19 ++ readerOf rx 27

/-- The rows of spec/opcode_table.json in table order: mnemonic, match, mask. -/
def opcodeRows : List (String × BitVec 24 × BitVec 24) :=
  [("QUERY_CONFIG",    0x000100#24, 0x08FF00#24),
   ("ATA_IDENTIFY",    0x0000EC#24, 0x08FFFF#24),
   ("ATA_READ_RETRY",  0x000020#24, 0x08FFFF#24),
   ("ATA_WRITE_RETRY", 0x000030#24, 0x08FFFF#24),
   ("ATA_UNSUPPORTED", 0x000000#24, 0x08FF00#24),
   ("AOE_UNSUPPORTED", 0x000000#24, 0x080000#24),
   ("QUERY_RESPONSE",  0x080100#24, 0x08FF00#24),
   ("ATA_RESPONSE",    0x080000#24, 0x08FF00#24)]

/-- The first row a key matches (R61). -/
def selectRow (k : BitVec 24) : Option String :=
  (opcodeRows.find? (fun r => k &&& r.2.2 == r.2.1)).map (fun r => r.1)

/-- The row of an instruction, by its mnemonic in the table. -/
def Instr.mnemonic : Instr → String
  | .queryConfig _ _        => "QUERY_CONFIG"
  | .ataIdentify _ _ _      => "ATA_IDENTIFY"
  | .ataReadRetry _ _ _     => "ATA_READ_RETRY"
  | .ataWriteRetry _ _ _    => "ATA_WRITE_RETRY"
  | .ataUnsupported _ _ _ _ => "ATA_UNSUPPORTED"
  | .aoeUnsupported _ _ _   => "AOE_UNSUPPORTED"
  | .queryResponse _ _      => "QUERY_RESPONSE"
  | .ataResponse _ _        => "ATA_RESPONSE"

/-! ### One word of the table as a frame -/

/-- The 36-byte frame whose dispatch key is the low 24 bits of `w`: bits 7:0 are `RX[27]`, bits 15:8 `RX[19]` and bits
23:16 `RX[14]` (R61). The table numbers no other byte, so every other byte is 0x00; notes/assumptions/7.md. -/
def frameOfKey (nbits w : Nat) : List Byte :=
  let k := w % 2 ^ nbits
  zeros 14 ++ [BitVec.ofNat 8 (k / 2 ^ 16)] ++ zeros 4 ++ [BitVec.ofNat 8 (k / 2 ^ 8)] ++ zeros 7
    ++ [BitVec.ofNat 8 k] ++ zeros 8

/-- The instruction the decoder reads from a word of the opcode table. -/
def decodeTableWord (nbits w : Nat) : Option Instr :=
  match decode (frameOfKey nbits w) with
  | .ok i    => some i
  | .error _ => none

end Sys2Proof
end

