-- ==== Sys2Proof/Machine/Memory.lean ====
section
/-! DEFINITION. The transmit buffer's bytes (10_state.md R19, 20_memory.md R37) as a list of (address, byte) pairs in one
canonical form: addresses strictly rising, no byte equal to what an unlisted address reads as. An unlisted address reads
0x00, the buffer's contents after reset and after every clear (10_state.md R20, R29). -/

namespace Sys2Proof.Machine

open Sys2Proof

/-- Bytes by address. -/
abbrev Memory := List Host.Cell

/-- What an address that is not listed reads as (R20, R29). -/
def unlistedByte : Byte := 0#8

/-- The cleared buffer. -/
def Memory.empty : Memory := []

/-- The byte at an address. -/
def Memory.read : Memory → Nat → Byte
  | [], _     => unlistedByte
  | c :: m, a => if c.1 = a then c.2 else Memory.read m a

/-- The bytes `m[a..a+n)` (R9, R11). -/
def Memory.readRange (m : Memory) (a n : Nat) : List Byte := (List.range n).map (fun k => m.read (a + k))

/-- The listed cells of bytes laid from address `a` on: those that do not read as an unlisted address does. -/
def Memory.cells (a : Nat) : List Byte → Memory
  | []      => []
  | b :: bs => if b = unlistedByte then Memory.cells (a + 1) bs else (a, b) :: Memory.cells (a + 1) bs

/-- `MemWrite(a, |bs|, bs)` (R11): the bytes from address `a` on become `bs`, every other byte stays. -/
def Memory.write (m : Memory) (a : Nat) (bs : List Byte) : Memory :=
  m.filter (fun c => decide (c.1 < a)) ++ Memory.cells a bs ++ m.filter (fun c => decide (a + bs.length ≤ c.1))

/-- The canonical form: addresses strictly rising and no listed byte that an unlisted address reads as. -/
abbrev Memory.wf (m : Memory) : Prop :=
  m.Pairwise (fun c d => c.1 < d.1) ∧ ∀ c ∈ m, c.2 ≠ unlistedByte

end Sys2Proof.Machine
end

