-- ==== Sys2Proof/Machine/Ports.lean ====
section
/-! DEFINITION. The names the block's state and ports are made of: the states of its two state machines (10_state.md R17,
R18), its outcome codes (60_exceptions.md R150, R151), its input and output events (R24, R25, R27), and the codec's
accessors (40_codec.md). -/

namespace Sys2Proof.Machine

open Sys2Proof

/-- `RSTATE` (R17). -/
inductive RState where
  | idle | initTxWait | sreadWait | swriteWait | txWait | done
deriving DecidableEq, Repr

/-- `CSTATE` (R18). -/
inductive CState where
  | disconnected | txWait | awaitQuery | connected | awaitOp
deriving DecidableEq, Repr

/-- `OP_KIND` (R16). -/
inductive OpKind where
  | none | query | identify | read | write
deriving DecidableEq, Repr

/-- The responder's outcome codes (R150). -/
inductive RCode where
  | okSent | txFail | announceSent | announceTxFail
  | dropShort | dropDst | dropType | dropVersion | dropEflag | dropRflag | dropError | dropMajor | dropMinor
  | dropAoeCmd | dropAtaCmd | dropIssueShort | dropWriteShort | dropCount
  | readFail | writeFail
  | none
deriving DecidableEq, Repr

/-- The 8 bits of `OUTCOME` (R150). -/
def RCode.code : RCode → Byte
  | .okSent         => 0x00#8
  | .txFail         => 0x01#8
  | .announceSent   => 0x02#8
  | .announceTxFail => 0x03#8
  | .dropShort      => 0x10#8
  | .dropDst        => 0x11#8
  | .dropType       => 0x12#8
  | .dropVersion    => 0x13#8
  | .dropEflag      => 0x14#8
  | .dropRflag      => 0x15#8
  | .dropError      => 0x16#8
  | .dropMajor      => 0x17#8
  | .dropMinor      => 0x18#8
  | .dropAoeCmd     => 0x20#8
  | .dropAtaCmd     => 0x21#8
  | .dropIssueShort => 0x22#8
  | .dropWriteShort => 0x23#8
  | .dropCount      => 0x24#8
  | .readFail       => 0x30#8
  | .writeFail      => 0x31#8
  | .none           => 0xFF#8

/-- The initiator's outcome codes (R151). The reserved code 0x43 is never written and has no name. -/
inductive CCode where
  | ok | txFail | notConnected | badArgs | timeout | strayLimit | rejected | bound | none
deriving DecidableEq, Repr

/-- The 8 bits of `C_OUTCOME` (R151). -/
def CCode.code : CCode → Byte
  | .ok           => 0x40#8
  | .txFail       => 0x41#8
  | .notConnected => 0x42#8
  | .badArgs      => 0x44#8
  | .timeout      => 0x45#8
  | .strayLimit   => 0x46#8
  | .rejected     => 0x47#8
  | .bound        => 0x48#8
  | .none         => 0xFF#8

/-- The kinds a `PRINT` event carries (R27, R102, R103, R109, R111, R118). -/
inductive PrintKind where
  | unsupportedAoeCmd | unsupportedAtaCmd | readFail | writeFail | txFail
deriving DecidableEq, Repr

/-- The host's commands (R24): sector and count are unsigned numbers (R134), the write data any bytes (R28, R135). -/
inductive HostCmd where
  | connect
  | identify
  | read (sector count : Nat)
  | write (sector count : Nat) (wdata : List Byte)
deriving DecidableEq, Repr

/-- What stands at the block's ports (R24, R27). A collaborator's answer carries the number of the request it answers
(notes/assumptions/3.md); its `ok` and its data are free (R12). -/
inductive Input where
  | reset
  | frame (rx : List Byte)
  | host (cmd : HostCmd)
  | timeout
  | txAnswer (req : Nat) (ok : Bool)
  | readAnswer (req : Nat) (ok : Bool) (data : Sector)
  | writeAnswer (req : Nat) (ok : Bool)
deriving DecidableEq, Repr

/-- The output events (R25); `PRINT` stands apart (`State.prints`). -/
inductive Output where
  | txReq (bytes : List Byte) (length : Nat) (timeout : Nat)
  | sread (lba : Nat)
  | swrite (lba : Nat) (data : Sector)
  | done (result : Bool) (outcome : CCode) (data : List Byte)
deriving DecidableEq, Repr

/-- An output event that asks a collaborator for an answer (R27). -/
def Output.isRequest : Output → Bool
  | .txReq _ _ _  => true
  | .sread _      => true
  | .swrite _ _   => true
  | .done _ _ _   => false

/-- The codec's accessors (40_codec.md R69 to R94), and the tag bytes the responder copies (R101): the name a
`CODEC_BOUNDS` fault records (R152). -/
inductive Accessor where
  | ethDst | ethSrc | ethType
  | aoeVer | aoeFlagResponse | aoeFlagError | aoeError | aoeMajor | aoeMinor | aoeCommand | aoeTag
  | qBufferCount | qFirmwareVersion | qSectorCount | qAoeVer | qCcmd | qCslen
  | iAflags | iErrFeature | iSectorCount | iCmdStatus | iDeviceReady | iStatusError | iLba
  | idCapacity | data
deriving DecidableEq, Repr

end Sys2Proof.Machine
end

