-- ==== Sys2Proof/Machine/ResetValues.lean ====
section
/-! DEFINITION. What `RESET` leaves where it depends on the configuration (10_state.md R29, 70_reset_and_hazards.md R167,
R168): a RESPONDER whose `ANNOUNCE_ON_INIT` is true has composed the announce of 41_responder.md R122 and waits for its
transmit answer; notes/assumptions/6.md. -/

namespace Sys2Proof.Machine

open Sys2Proof

/-- Whether `init()` announces (R122, R167). -/
def announces (c : Config) : Bool :=
  match c.role with
  | .responder => c.announceOnInit
  | .initiator => false

/-- The announce, the last column of the table of 30_encoding.md R64: 32 bytes. -/
def announceFrame : List Byte :=
  Mac.broadcast.toList ++ zeros 6 ++ be16Bytes aoeEthertype ++ [byte14 aoeVersion false false 0#2, 0#8]
    ++ be16Bytes majorBroadcast ++ [minorBroadcast, aoeCmdQuery] ++ zeros 12

/-- `TX` after `RESET`. -/
def resetTx (c : Config) : Memory :=
  if announces c then Memory.write Memory.empty 0 announceFrame else Memory.empty

/-- `RSTATE` after `RESET` (R168). -/
def resetRState (c : Config) : RState := if announces c then .initTxWait else .idle

/-- `ID_SECTORS` after `RESET` (R167). -/
def resetSectors (c : Config) : BitVec 64 :=
  match c.role with
  | .responder => c.cfgSectors
  | .initiator => 0#64

/-- The output events of `RESET`: the announce's `TXREQ` (R122). -/
def resetOutputs (c : Config) : List Output :=
  if announces c then [.txReq announceFrame queryRspBytes c.txTimeout] else []

/-- How many collaborator requests `RESET` has issued. -/
def resetRequests (c : Config) : Nat := if announces c then 1 else 0

end Sys2Proof.Machine
end

