-- ==== Sys2Proof/Machine/State.lean ====
section
/-! DEFINITION. The machine's state, every element of 10_state.md R16 to R20 and the two the spec implies, its stops, and
the state after reset. Fields `cfg`, `inputs`, `reqNo`, `outputs` and `prints` are the model's own: the configuration
(R23), what stands at the ports (R24, R27), and what the block has put out (R25). -/

namespace Sys2Proof.Machine

open Sys2Proof

/-- Why the machine stops with a fault. -/
inductive Fault where
  /-- `CODEC_BOUNDS` (40_codec.md R68, 60_exceptions.md R152): an accessor whose byte range leaves its buffer, with the
  accessor's name and its offset. Raised by the accessors of Machine/Operands.lean. Safe: the spec says its rules never
  reach it and that a model that does must stop. -/
  | codecBounds (accessor : Accessor) (offset : Nat)
deriving DecidableEq, Repr

/-- Why the machine refuses an instruction. -/
inductive Refusal where
  /-- An instruction without a meaning, by its mnemonic in spec/opcode_table.json. No arm of `exec` raises it. Safe. -/
  | notModelled (mnemonic : String)
deriving DecidableEq, Repr

/-- One block instance, its ports and what it has put out. -/
structure State where
  /-- The configuration (R23): no step writes it. -/
  cfg       : Config
  /-- `TX`, the transmit buffer (R19). -/
  tx        : Memory
  /-- `ID_MAJOR`. -/
  idMajor   : BitVec 16
  /-- `ID_MINOR`. -/
  idMinor   : BitVec 8
  /-- `ID_SECTORS`. -/
  idSectors : BitVec 64
  /-- `RSTATE` (R17). -/
  rstate    : RState
  /-- `T_CMD`. -/
  tCmd      : BitVec 8
  /-- `T_ATA`. -/
  tAta      : BitVec 8
  /-- `T_LBA`. -/
  tLba      : BitVec 24
  /-- `T_COUNT`. -/
  tCount    : BitVec 8
  /-- `T_IDX`. -/
  tIdx      : BitVec 9
  /-- `RSP_VALID`. -/
  rspValid  : Bool
  /-- `RSP_LEN`. -/
  rspLen    : BitVec 18
  /-- `OUTCOME` (R150). -/
  outcome   : RCode
  /-- `FAIL_IDX`. -/
  failIdx   : BitVec 9
  /-- `CSTATE` (R18). -/
  cstate    : CState
  /-- `TAG`. -/
  tag       : BitVec 32
  /-- `DEST`. -/
  dest      : Mac
  /-- `C_SECTORS`. -/
  cSectors  : BitVec 64
  /-- `OP_KIND`. -/
  opKind    : OpKind
  /-- `OP_COUNT`. -/
  opCount   : BitVec 8
  /-- `STRAY_CNT`. -/
  strayCnt  : Nat
  /-- `C_RESULT`. -/
  cResult   : Bool
  /-- `C_OUTCOME` (R151). -/
  cOutcome  : CCode
  /-- `C_CODE`. -/
  cCode     : BitVec 8
  /-- `RDATA`. -/
  rdata     : List Byte
  /-- The `CSTATE` before the send in progress, which a failed transmit restores (R131, R132). -/
  cPrev     : CState
  /-- `RX`, the inbound frame held for the responder transaction in progress (R26). -/
  rx        : List Byte
  /-- What stands at the ports, in the order the environment presents it (R155). -/
  inputs    : List Input
  /-- The number of the last collaborator request issued; an answer is taken only if it carries this number. -/
  reqNo     : Nat
  /-- The output events so far, oldest first. -/
  outputs   : List Output
  /-- The diagnostics so far, oldest first: no claim depends on them (R121). -/
  prints    : List PrintKind
deriving DecidableEq, Repr

/-- The state right after `RESET` under the configuration `c` (R29, R167, R168), with nothing at the ports. -/
def State.resetOf (c : Config) : State where
  cfg       := c
  tx        := resetTx c
  idMajor   := c.cfgMajor
  idMinor   := c.cfgMinor
  idSectors := resetSectors c
  rstate    := resetRState c
  tCmd      := 0#8
  tAta      := 0#8
  tLba      := 0#24
  tCount    := 0#8
  tIdx      := 0#9
  rspValid  := false
  rspLen    := 0#18
  outcome   := .none
  failIdx   := 0#9
  cstate    := .disconnected
  tag       := 0#32
  dest      := Mac.empty
  cSectors  := 0#64
  opKind    := .none
  opCount   := 0#8
  strayCnt  := 0
  cResult   := false
  cOutcome  := .none
  cCode     := 0#8
  rdata     := []
  cPrev     := .disconnected
  rx        := []
  inputs    := []
  reqNo     := resetRequests c
  outputs   := resetOutputs c
  prints    := []

/-- The machine right after reset, under the configuration of 95_test_vectors.md section 0. -/
def State.reset : State := State.resetOf Config.standard

end Sys2Proof.Machine
end

