-- ==== Sys2Proof/Machine/Ops.lean ====
section
/-! DEFINITION. The shared operations: the transmit buffer with its bounds (40_codec.md R68), the output events and the
collaborator requests (10_state.md R25, R27), which inputs the block accepts (R24), and the two ways a transaction ends
without a trap: `raise Drop` of the responder (60_exceptions.md R153) and `complete` of the initiator (42_initiator.md
R146). The block has no exception entry or return (R148, R157, R158); these two are what it has. -/

namespace Sys2Proof.Machine

open Sys2Proof

/-- The outcome of a computation that may reach `CODEC_BOUNDS`. -/
def toOutcome : Except Fault State → Host.Outcome State Fault Refusal
  | .ok s    => .next s
  | .error f => .fault f

/-! ### The transmit buffer -/

/-- Write a field's bytes into `TX` (R67), or stop with `CODEC_BOUNDS` (R68). -/
def State.txWrite (acc : Accessor) (o : Nat) (bs : List Byte) (s : State) : Except Fault State :=
  if o + bs.length ≤ s.cfg.txbufBytes then .ok { s with tx := s.tx.write o bs } else .error (.codecBounds acc o)

/-- Replace one byte of `TX` by a function of itself: the read-modify-write of a bit field (R40, R72). -/
def State.txModify (acc : Accessor) (o : Nat) (f : Byte → Byte) (s : State) : Except Fault State :=
  s.txWrite acc o [f (s.tx.read o)]

/-- `clear` (R95). -/
def State.clearTx (s : State) : State := { s with tx := Memory.empty }

/-! ### Output events -/

/-- Put out an event (R25). -/
def State.emit (e : Output) (s : State) : State := { s with outputs := s.outputs ++ [e] }

/-- `PRINT(kind)` (R27, R121). -/
def State.print (k : PrintKind) (s : State) : State := { s with prints := s.prints ++ [k] }

/-- Issue a collaborator request: put it out and number it (R27, R156). -/
def State.request (e : Output) (s : State) : State := { s.emit e with reqNo := s.reqNo + 1 }

/-- The transmit request for `TX[0..len)` (R27, R43). -/
def State.requestTx (len : Nat) (s : State) : State :=
  s.request (.txReq (s.tx.readRange 0 len) len s.cfg.txTimeout)

/-! ### The input ports -/

/-- Whether a `FRAME` is accepted in this state (R24, R127). -/
def State.acceptsFrame (s : State) (rx : List Byte) : Bool :=
  decide (rx.length ≤ s.cfg.rxMaxBytes) &&
  match s.cfg.role with
  | .responder => decide (s.rstate = .idle)
  | .initiator => decide (s.cstate ≠ .txWait)

/-- Whether a host command is accepted in this state (R24, R127). -/
def State.acceptsHost (s : State) : Bool :=
  match s.cfg.role with
  | .responder => false
  | .initiator => decide (s.cstate ≠ .txWait) && decide (s.cstate ≠ .awaitOp)

/-- Whether the transmit answer to request `n` is awaited in this state (R118, R122, R131, R156). -/
def State.awaitsTx (s : State) (n : Nat) : Bool :=
  decide (n = s.reqNo) &&
  match s.cfg.role with
  | .responder => decide (s.rstate = .txWait) || decide (s.rstate = .initTxWait)
  | .initiator => decide (s.cstate = .txWait)

/-- Whether a storage answer to request `n` is awaited in the responder state `w` (R108, R111, R156). -/
def State.awaitsStorage (s : State) (w : RState) (n : Nat) : Bool :=
  decide (n = s.reqNo) && decide (s.cfg.role = .responder) && decide (s.rstate = w)

/-- Which inputs the block takes in this state (R24, R27, R127, R155, R156). Any other stays at its port. -/
def State.accepts (s : State) : Input → Bool
  | .reset             => true
  | .frame rx          => s.acceptsFrame rx
  | .host _            => s.acceptsHost
  | .timeout           => decide (s.cfg.role = .initiator)
  | .txAnswer n _      => s.awaitsTx n
  | .readAnswer n _ _  => s.awaitsStorage .sreadWait n
  | .writeAnswer n _   => s.awaitsStorage .swriteWait n

/-- An input that is not accepted stays at its port, before those that came after it (R24, R170). -/
def State.hold (inp : Input) (s : State) : State := { s with inputs := inp :: s.inputs }

/-! ### The ends of a transaction -/

/-- `raise Drop(code)` (R153): no reply; the next step is the final clear. -/
def State.drop (code : RCode) (s : State) : State :=
  { s with outcome := code, rspValid := false, rspLen := 0#18, rstate := .done }

/-- `complete(result, outcome, data)` (R146). -/
def State.complete (result : Bool) (code : CCode) (data : List Byte) (s : State) : State :=
  { s with
    cResult  := result
    cOutcome := code
    rdata    := if result then data else []
    opKind   := .none
    strayCnt := 0
    cstate   := if s.cstate = .awaitOp ∨ s.cstate = .txWait then .connected else s.cstate
    outputs  := s.outputs ++ [.done result code (if result then data else [])] }

end Sys2Proof.Machine
end

