-- ==== Sys2Proof/Machine/Operands.lean ====
section
/-! DEFINITION. The codec's accessors (40_codec.md R67 to R96), every one: a getter over the transmit buffer or an inbound
frame, and a setter over the transmit buffer. Each checks that its byte range lies in its buffer and stops with
`CODEC_BOUNDS` otherwise (R68, R152). The clear of R95 is `State.clearTx` in Machine/Ops.lean. -/

namespace Sys2Proof.Machine

open Sys2Proof

/-- The two buffers an accessor may be applied to (R67): `TX` with its size, or an inbound frame. -/
inductive Buffer where
  | tx (m : Memory) (size : Nat)
  | rx (bytes : List Byte)
deriving DecidableEq, Repr

/-- The number of bytes of a buffer. -/
def Buffer.size : Buffer → Nat
  | .tx _ n => n
  | .rx bs  => bs.length

/-- The byte at an offset. -/
def Buffer.byte : Buffer → Nat → Byte
  | .tx m _, a => m.read a
  | .rx bs, a  => readerOf bs a

/-- Read a field of `w` bytes at offset `o` (R67), or stop with `CODEC_BOUNDS` (R68). -/
def Buffer.get {α : Type} (acc : Accessor) (o w : Nat) (field : (Nat → Byte) → α) (b : Buffer) : Except Fault α :=
  if o + w ≤ b.size then .ok (field b.byte) else .error (.codecBounds acc o)

/-- The transmit buffer of a state, as a buffer. -/
def State.txBuffer (s : State) : Buffer := .tx s.tx s.cfg.txbufBytes

/-! ### Getters -/

/-- Get `eth.dst` (R69). -/
def Buffer.getEthDst (b : Buffer) : Except Fault Mac := b.get .ethDst 0 6 ethDstOf

/-- Get `eth.src` (R70). -/
def Buffer.getEthSrc (b : Buffer) : Except Fault Mac := b.get .ethSrc 6 6 ethSrcOf

/-- Get `eth.type` (R71). -/
def Buffer.getEthType (b : Buffer) : Except Fault (BitVec 16) := b.get .ethType 12 2 ethTypeOf

/-- Get `aoe.ver` (R72). -/
def Buffer.getAoeVer (b : Buffer) : Except Fault (BitVec 4) := b.get .aoeVer 14 1 aoeVersionOf

/-- Get `aoe.flag_response` (R73). -/
def Buffer.getAoeFlagResponse (b : Buffer) : Except Fault Bool := b.get .aoeFlagResponse 14 1 aoeFlagResponseOf

/-- Get `aoe.flag_error` (R74). -/
def Buffer.getAoeFlagError (b : Buffer) : Except Fault Bool := b.get .aoeFlagError 14 1 aoeFlagErrorOf

/-- Get `aoe.error` (R75). -/
def Buffer.getAoeError (b : Buffer) : Except Fault Byte := b.get .aoeError 15 1 aoeErrorOf

/-- Get `aoe.major` (R76). -/
def Buffer.getAoeMajor (b : Buffer) : Except Fault (BitVec 16) := b.get .aoeMajor 16 2 aoeMajorOf

/-- Get `aoe.minor` (R77). -/
def Buffer.getAoeMinor (b : Buffer) : Except Fault Byte := b.get .aoeMinor 18 1 aoeMinorOf

/-- Get `aoe.command` (R78). -/
def Buffer.getAoeCommand (b : Buffer) : Except Fault Byte := b.get .aoeCommand 19 1 aoeCommandOf

/-- Get `aoe.tag` (R79). -/
def Buffer.getAoeTag (b : Buffer) : Except Fault (BitVec 32) := b.get .aoeTag 20 4 aoeTagOf

/-- Get `q.buffer_count` (R80). -/
def Buffer.getQBufferCount (b : Buffer) : Except Fault (BitVec 16) := b.get .qBufferCount 24 2 qBufferCountOf

/-- Get `q.firmware_version` (R81). -/
def Buffer.getQFirmwareVersion (b : Buffer) : Except Fault (BitVec 16) := b.get .qFirmwareVersion 26 2 qFirmwareVersionOf

/-- Get `q.sector_count` (R82). -/
def Buffer.getQSectorCount (b : Buffer) : Except Fault Byte := b.get .qSectorCount 28 1 qSectorCountOf

/-- Get `q.aoe_ver` (R83). -/
def Buffer.getQAoeVer (b : Buffer) : Except Fault (BitVec 4) := b.get .qAoeVer 29 1 qAoeVerOf

/-- Get `q.ccmd` (R84). -/
def Buffer.getQCcmd (b : Buffer) : Except Fault (BitVec 4) := b.get .qCcmd 29 1 qCcmdOf

/-- Get `q.cslen` (R85). -/
def Buffer.getQCslen (b : Buffer) : Except Fault (BitVec 16) := b.get .qCslen 30 2 qCslenOf

/-- Get `i.aflags` (R86). -/
def Buffer.getIAflags (b : Buffer) : Except Fault Byte := b.get .iAflags 24 1 iAflagsOf

/-- Get `i.err_feature` (R87). -/
def Buffer.getIErrFeature (b : Buffer) : Except Fault Byte := b.get .iErrFeature 25 1 iErrFeatureOf

/-- Get `i.sector_count` (R88). -/
def Buffer.getISectorCount (b : Buffer) : Except Fault Byte := b.get .iSectorCount 26 1 iSectorCountOf

/-- Get `i.cmd_status` (R89). -/
def Buffer.getICmdStatus (b : Buffer) : Except Fault Byte := b.get .iCmdStatus 27 1 iCmdStatusOf

/-- Get `i.status_device_ready` (R90). -/
def Buffer.getIDeviceReady (b : Buffer) : Except Fault Bool := b.get .iDeviceReady 27 1 iDeviceReadyOf

/-- Get `i.status_error` (R91). -/
def Buffer.getIStatusError (b : Buffer) : Except Fault Bool := b.get .iStatusError 27 1 iStatusErrorOf

/-- Get `i.lba` (R92). -/
def Buffer.getILba (b : Buffer) : Except Fault (BitVec 24) := b.get .iLba 28 3 iLbaOf

/-- Get `id.capacity` (R93). -/
def Buffer.getIdCapacity (b : Buffer) : Except Fault (BitVec 64) := b.get .idCapacity identCapOff 8 idCapacityOf

/-- Get `data[k]` (R94). -/
def Buffer.getData (k : Nat) (b : Buffer) : Except Fault Sector := b.get .data (windowOff k) sectorBytes (windowOf k)

/-! ### Setters -/

/-- Set `eth.dst` (R69). -/
def State.setEthDst (v : Mac) (s : State) : Except Fault State := s.txWrite .ethDst 0 (v.toList)

/-- Set `eth.src` (R70). -/
def State.setEthSrc (v : Mac) (s : State) : Except Fault State := s.txWrite .ethSrc 6 (v.toList)

/-- Set `eth.type` (R71). -/
def State.setEthType (v : BitVec 16) (s : State) : Except Fault State := s.txWrite .ethType 12 (be16Bytes v)

/-- Set `aoe.ver` (R72), keeping the byte's other bits. -/
def State.setAoeVer (v : BitVec 4) (s : State) : Except Fault State :=
  s.txModify .aoeVer 14 (fun b => withVer b v)

/-- Set `aoe.flag_response` (R73), keeping the byte's other bits. -/
def State.setAoeFlagResponse (v : Bool) (s : State) : Except Fault State :=
  s.txModify .aoeFlagResponse 14 (fun b => withFlagResponse b v)

/-- Set `aoe.flag_error` (R74), keeping the byte's other bits. -/
def State.setAoeFlagError (v : Bool) (s : State) : Except Fault State :=
  s.txModify .aoeFlagError 14 (fun b => withFlagError b v)

/-- Set `aoe.error` (R75). -/
def State.setAoeError (v : Byte) (s : State) : Except Fault State := s.txWrite .aoeError 15 [v]

/-- Set `aoe.major` (R76). -/
def State.setAoeMajor (v : BitVec 16) (s : State) : Except Fault State := s.txWrite .aoeMajor 16 (be16Bytes v)

/-- Set `aoe.minor` (R77). -/
def State.setAoeMinor (v : Byte) (s : State) : Except Fault State := s.txWrite .aoeMinor 18 [v]

/-- Set `aoe.command` (R78). -/
def State.setAoeCommand (v : Byte) (s : State) : Except Fault State := s.txWrite .aoeCommand 19 [v]

/-- Set `aoe.tag` (R79). -/
def State.setAoeTag (v : BitVec 32) (s : State) : Except Fault State := s.txWrite .aoeTag 20 (be32Bytes v)

/-- Set `q.buffer_count` (R80). -/
def State.setQBufferCount (v : BitVec 16) (s : State) : Except Fault State := s.txWrite .qBufferCount 24 (be16Bytes v)

/-- Set `q.firmware_version` (R81). -/
def State.setQFirmwareVersion (v : BitVec 16) (s : State) : Except Fault State := s.txWrite .qFirmwareVersion 26 (be16Bytes v)

/-- Set `q.sector_count` (R82). -/
def State.setQSectorCount (v : Byte) (s : State) : Except Fault State := s.txWrite .qSectorCount 28 [v]

/-- Set `q.aoe_ver` (R83), keeping the byte's other bits. -/
def State.setQAoeVer (v : BitVec 4) (s : State) : Except Fault State :=
  s.txModify .qAoeVer 29 (fun b => withAoeVer b v)

/-- Set `q.ccmd` (R84), keeping the byte's other bits. -/
def State.setQCcmd (v : BitVec 4) (s : State) : Except Fault State :=
  s.txModify .qCcmd 29 (fun b => withCcmd b v)

/-- Set `q.cslen` (R85). -/
def State.setQCslen (v : BitVec 16) (s : State) : Except Fault State := s.txWrite .qCslen 30 (be16Bytes v)

/-- Set `i.aflags` (R86). -/
def State.setIAflags (v : Byte) (s : State) : Except Fault State := s.txWrite .iAflags 24 [v]

/-- Set `i.err_feature` (R87). -/
def State.setIErrFeature (v : Byte) (s : State) : Except Fault State := s.txWrite .iErrFeature 25 [v]

/-- Set `i.sector_count` (R88). -/
def State.setISectorCount (v : Byte) (s : State) : Except Fault State := s.txWrite .iSectorCount 26 [v]

/-- Set `i.cmd_status` (R89). -/
def State.setICmdStatus (v : Byte) (s : State) : Except Fault State := s.txWrite .iCmdStatus 27 [v]

/-- Set `i.status_device_ready` (R90), keeping the byte's other bits. -/
def State.setIDeviceReady (v : Bool) (s : State) : Except Fault State :=
  s.txModify .iDeviceReady 27 (fun b => withDeviceReady b v)

/-- Set `i.status_error` (R91), keeping the byte's other bits. -/
def State.setIStatusError (v : Bool) (s : State) : Except Fault State :=
  s.txModify .iStatusError 27 (fun b => withStatusError b v)

/-- Set `i.lba` (R92). -/
def State.setILba (v : BitVec 24) (s : State) : Except Fault State := s.txWrite .iLba 28 (le24Bytes v)

/-- Set `id.capacity` (R93). -/
def State.setIdCapacity (v : BitVec 64) (s : State) : Except Fault State := s.txWrite .idCapacity identCapOff (le64Bytes v)

/-- Set `data[k]` (R94). -/
def State.setData (k : Nat) (v : Sector) (s : State) : Except Fault State := s.txWrite .data (windowOff k) v.toList

/-- Set `data[k]`, `data[k+1]`, … `n` windows, from consecutive 512-byte pieces of a byte sequence (R135). -/
def State.setWindows : Nat → Nat → List Byte → State → Except Fault State
  | 0, _, _, s     => .ok s
  | n + 1, k, w, s => do
    let s ← s.txWrite .data (windowOff k) (w.take sectorBytes)
    State.setWindows n (k + 1) (w.drop sectorBytes) s

end Sys2Proof.Machine
end

