-- ==== Sys2Proof/Machine/Initiator.lean ====
section
/-! DEFINITION. The initiator's shared operations (42_initiator.md): composing and sending a request (R129 to R131), the
argument check (R136), the tag matcher (R138), the success test (R140 to R142), strays (R144), the timeout (R145) and the
transmit answer (R131 to R135). -/

namespace Sys2Proof.Machine

open Sys2Proof

/-- The common request header, with a fresh tag (R129, R130). -/
def State.composeHeader (dst : Mac) (major : BitVec 16) (minor : Byte) (command : Byte) (s : State) :
    Except Fault State := do
  let s := { s with tag := s.tag + 1#32 }
  let s ← s.setEthDst dst
  let s ← s.setEthType aoeEthertype
  let s ← s.setAoeVer aoeVersion
  let s ← s.setAoeError 0#8
  let s ← s.setAoeMajor major
  let s ← s.setAoeMinor minor
  let s ← s.setAoeCommand command
  s.setAoeTag s.tag

/-- The header of an Issue request: `DEST` and this instance's own major and minor (R133 to R135). -/
def State.composeIssueHeader (s : State) : Except Fault State :=
  s.composeHeader s.dest s.idMajor s.idMinor aoeCmdIssue

/-- `send(len, next)` (R131), up to the request. The state before it is remembered for a failed transmit; the state
after it follows from `OP_KIND` (`State.sent`). -/
def State.send (len : Nat) (s : State) : State :=
  { s.requestTx len with cPrev := s.cstate, cstate := .txWait }

/-- The transmit answer (R131), then what the sending command does with it: R132 for CONNECT, R133 to R135 for the
operations. With no request outstanding, which no run reaches, only R131 itself applies (notes/assumptions/16.md). -/
def State.sent (ok : Bool) (s : State) : State :=
  let s := s.clearTx
  match s.opKind, ok with
  | .query, true =>
    { s with
      cstate := .awaitQuery, strayCnt := 0, cCode := 0#8, cResult := true, cOutcome := .ok
      outputs := s.outputs ++ [.done true .ok []] }
  | .query, false =>
    { s with
      cstate := if s.cPrev = .connected then .connected else .disconnected
      opKind := .none, cCode := 1#8, cResult := false, cOutcome := .txFail
      outputs := s.outputs ++ [.done false .txFail []] }
  | .identify, true | .read, true | .write, true => { s with cstate := .awaitOp, strayCnt := 0 }
  | .identify, false | .read, false | .write, false =>
    State.complete false .txFail [] { s with cstate := .connected, opKind := .none }
  | .none, _ => { s with cstate := s.cPrev }

/-- An operation before discovery completes (R128). -/
def State.refuseNotConnected (s : State) : State :=
  { s with
    cResult := false, cOutcome := .notConnected, rdata := []
    outputs := s.outputs ++ [.done false .notConnected []] }

/-- `args_ok(sector, count)` (R136). -/
def argsOk (c : Config) (sector count : Nat) : Bool :=
  decide (1 ≤ count) && decide (count ≤ c.maxSectors) && decide (sector ≤ 2 ^ 24 - 1)

/-- The tag matcher (R138) on a frame of at least 24 bytes. -/
def State.tagMatches (s : State) (flagResponse : Bool) (command : Byte) (h : Header) : Bool :=
  h.etype == aoeEthertype && h.ver == aoeVersion && flagResponse
    && (if s.opKind = .query then command == aoeCmdQuery else command == aoeCmdIssue)
    && h.tag == s.tag

/-- Whether a response's header reports no error: E = 0 and error = 0 (R139 to R142). -/
def headerOk (h : Header) : Bool := !h.flagError && h.error == 0#8

/-- The success test of an ATA response (R140 to R142): long enough, no error in the header, ERR = 0 and DRDY = 1. The
status byte is read only in a frame that holds it. -/
def responseOk (rx : List Byte) (len : Nat) (h : Header) : Except Fault Bool :=
  if len ≤ rx.length ∧ headerOk h = true then do
    let err ← (Buffer.rx rx).getIStatusError
    let ready ← (Buffer.rx rx).getIDeviceReady
    pure (!err && ready)
  else .ok false

/-- A frame that does not match (R144): discarded while a query waits, a stray while an operation waits. -/
def State.stray (s : State) : State :=
  if s.cstate = .awaitOp then
    match s.cfg.clientMaxStray with
    | some limit => if limit ≤ s.strayCnt then s.complete false .strayLimit [] else { s with strayCnt := s.strayCnt + 1 }
    | none       => { s with strayCnt := s.strayCnt + 1 }
  else s

/-- A `FRAME` taken by an initiator (R127, R137): discarded in `C_DISCONNECTED` and `C_CONNECTED`; tested by the tag
matcher in `C_AWAIT_QUERY` and `C_AWAIT_OP`, then decoded or a stray. -/
def State.receive (isMatch : Bool) (decoded : State → Except Fault State) (s : State) : Except Fault State :=
  if s.cstate = .awaitQuery ∨ s.cstate = .awaitOp then
    if isMatch then decoded s else .ok s.stray
  else .ok s

/-- `TIMEOUT` (R145). -/
def State.timedOut (s : State) : State :=
  match s.cstate with
  | .awaitOp    => s.complete false .timeout []
  | .awaitQuery => { s with cstate := .disconnected, opKind := .none, cOutcome := .timeout }
  | _           => s

end Sys2Proof.Machine
end

