-- ==== Sys2Proof/Machine/Responder.lean ====
section
/-! DEFINITION. The responder's shared operations (41_responder.md): latch and validate (R98), seed (R100), transmit
(R118), the read and write loops (R108, R109, R111), the final clear (R120) and `init()` (R122). -/

namespace Sys2Proof.Machine

open Sys2Proof

/-- The checks of R98 after the length check, in their order: the code of the first that fails, or `none` if the frame
passes. -/
def State.validate (s : State) (flagResponse : Bool) (h : Header) : Option RCode :=
  if ¬ (h.dst = Mac.broadcast ∨ h.dst = Mac.empty) then some .dropDst
  else if h.etype ≠ aoeEthertype then some .dropType
  else if h.ver ≠ aoeVersion then some .dropVersion
  else if h.flagError then some .dropEflag
  else if flagResponse then some .dropRflag
  else if h.error ≠ 0#8 then some .dropError
  else if ¬ (h.major = s.idMajor ∨ h.major = majorBroadcast) then some .dropMajor
  else if ¬ (h.minor = s.idMinor ∨ h.minor = minorBroadcast) then some .dropMinor
  else none

/-- The start of the accepting step (R98): `RX` is held and every latch is cleared. -/
def State.latch (rx : List Byte) (s : State) : State :=
  { s with
    rx := rx, outcome := .none, failIdx := 0#9, rspValid := false, rspLen := 0#18
    tCmd := 0#8, tAta := 0#8, tLba := 0#24, tCount := 0#8, tIdx := 0#9 }

/-- Seed the response headers (R100). The tag's four bytes are the request's (R101). -/
def State.seed (h : Header) (command : Byte) (s : State) : Except Fault State := do
  let s := { s with tCmd := command }
  let s ← s.setEthDst h.src
  let s ← s.setEthType aoeEthertype
  let s ← s.setAoeVer aoeVersion
  let s ← s.setAoeFlagResponse true
  let s ← s.setAoeFlagError false
  let s ← s.setAoeError 0#8
  let s ← s.setAoeMajor s.idMajor
  let s ← s.setAoeMinor s.idMinor
  let s ← s.setAoeCommand s.tCmd
  s.setAoeTag h.tag

/-- The accepting step of R98 for a frame of at least 24 bytes: latch, validate, seed, then the dispatched form's own
rule. -/
def State.accept (flagResponse : Bool) (command : Byte) (h : Header) (rx : List Byte)
    (form : State → Except Fault State) (s : State) : Except Fault State :=
  let s := s.latch rx
  match s.validate flagResponse h with
  | some code => .ok (s.drop code)
  | none      => do form (← s.seed h command)

/-- `transmit()` (R118), up to the request: the answer is `State.transmitted`. -/
def State.transmit (s : State) : State := { s.requestTx s.rspLen.toNat with rstate := .txWait }

/-- A composed response of `len` bytes is valid and goes out (R105, R106, R108, R111). -/
def State.respond (len : Nat) (s : State) : State :=
  { s with rspValid := true, rspLen := BitVec.ofNat 18 len }.transmit

/-- Whether every sector of the request is done: `T_IDX` = `T_COUNT` (R108, R111). -/
def State.sectorsDone (s : State) : Bool := s.tIdx == s.tCount.setWidth 9

/-- The LBA of the sector in progress, on unsigned integers with no wrap-around (R112). -/
def State.sectorLba (s : State) : Nat := s.tLba.toNat + s.tIdx.toNat

/-- `read_next()` (R108), up to the next request. -/
def State.readNext (s : State) : Except Fault State :=
  if s.sectorsDone then do
    let s ← s.setIDeviceReady true
    pure (s.respond (issueHdrBytes + sectorBytes * s.tCount.toNat))
  else .ok { s.request (.sread s.sectorLba) with rstate := .sreadWait }

/-- A storage call failed (R109, R111): the error status is composed, nothing is sent. -/
def State.storageFail (code : RCode) (kind : PrintKind) (s : State) : Except Fault State := do
  let s ← s.setIStatusError true
  pure { s.print kind with failIdx := s.tIdx, rspValid := false, outcome := code, rstate := .done }

/-- The answer to a storage read (R108, R109, R114): its data lands in `TX` whether it succeeded or not. -/
def State.readAnswered (ok : Bool) (d : Sector) (s : State) : Except Fault State := do
  let s ← s.setData s.tIdx.toNat d
  if ok then State.readNext { s with tIdx := s.tIdx + 1#9 } else s.storageFail .readFail .readFail

/-- `write_next()` (R111), up to the next request: sector `T_IDX` comes from the same window of `RX`. -/
def State.writeNext (s : State) : Except Fault State :=
  if s.sectorsDone then do
    let s ← s.setIDeviceReady true
    pure (s.respond issueHdrBytes)
  else do
    let d ← (Buffer.rx s.rx).getData s.tIdx.toNat
    pure { s.request (.swrite s.sectorLba d) with rstate := .swriteWait }

/-- The answer to a storage write (R111). -/
def State.writeAnswered (ok : Bool) (s : State) : Except Fault State :=
  if ok then State.writeNext { s with tIdx := s.tIdx + 1#9 } else s.storageFail .writeFail .writeFail

/-- The answer to the response's transmit (R118). A failed transmit is not retried. -/
def State.transmitted (ok : Bool) (s : State) : State :=
  if ok then { s with outcome := .okSent, rstate := .done }
  else { s.print .txFail with outcome := .txFail, rstate := .done }

/-- The final clear (R120): the step from `R_DONE`, which also ends the environment's hold of `RX` (R26). -/
def State.finalClear (s : State) : State := { s.clearTx with rstate := .idle, rx := [] }

/-- `init()` (R122), up to the announce's transmit request; `TX` is already clear. -/
def State.init (s : State) : Except Fault State :=
  if s.cfg.announceOnInit then do
    let s ← s.clearTx.setEthDst Mac.broadcast
    let s ← s.setEthType aoeEthertype
    let s ← s.setAoeVer aoeVersion
    let s ← s.setAoeMajor majorBroadcast
    let s ← s.setAoeMinor minorBroadcast
    let s ← s.setAoeCommand aoeCmdQuery
    pure { s.requestTx queryRspBytes with rstate := .initTxWait }
  else .ok { s.clearTx with rstate := .idle }

/-- The answer to the announce's transmit (R122). -/
def State.announced (ok : Bool) (s : State) : State :=
  { s.clearTx with outcome := if ok then .announceSent else .announceTxFail, rstate := .idle }

end Sys2Proof.Machine
end

