-- ==== Sys2Proof/Machine/Frames.lean ====
section
/-! DEFINITION. A frame offered to the block (10_state.md R24), whatever its form: the role's own rules take it in a state
that accepts it; in any other state the block has no step for it and it stays at its port (70_reset_and_hazards.md R170).
And the frames that have no form in the opcode table, which the block takes all the same (R98, R103, R138). -/

namespace Sys2Proof.Machine

open Sys2Proof

/-- Offer the frame `rx`: a RESPONDER runs the first continuation, an INITIATOR the second (R6). -/
def State.offer (rx : List Byte) (onResponder onInitiator : State → Except Fault State) (s : State) :
    Host.Outcome State Fault Refusal :=
  if s.acceptsFrame rx then
    toOutcome (match s.cfg.role with
      | .responder => onResponder s
      | .initiator => onInitiator s)
  else .next (s.hold (.frame rx))

/-- The responder and a frame without a form: `DROP_SHORT` below 24 bytes (R98), `DROP_ISSUE_SHORT` for an Issue request
below 36 bytes that passes validation (R103), and the validation's own drop for a response (R98). -/
def State.acceptUndecoded (e : DecodeError) (rx : List Byte) (s : State) : Except Fault State :=
  match e with
  | .shortFrame   => .ok ((s.latch rx).drop .dropShort)
  | .shortIssue h => s.accept false aoeCmdIssue h rx (fun s => .ok (s.drop .dropIssueShort))
  | .noRow h c    => s.accept true c h rx .ok

/-- A frame without a form. For the initiator it never matches: it is too short, or not a response, or of another command
(R138). -/
def State.takeUndecoded (e : DecodeError) (rx : List Byte) (s : State) : Host.Outcome State Fault Refusal :=
  s.offer rx (State.acceptUndecoded e rx) (State.receive false .ok)

end Sys2Proof.Machine
end

