-- ==== Sys2Proof/Machine/Aoe.lean ====
section
/-! DEFINITION. The meaning of AOE_UNSUPPORTED (41_responder.md R117): a request of another AoE command. -/

namespace Sys2Proof.Machine

open Sys2Proof

/-- An unsupported AoE command (R102, R117). -/
def State.aoeUnsupported (s : State) : Except Fault State := .ok ((s.print .unsupportedAoeCmd).drop .dropAoeCmd)

/-- AOE_UNSUPPORTED (R98, R102, R117). An INITIATOR never matches a request (R138). -/
def execAoeUnsupported (h : Header) (command : Byte) (payload : List Byte) (s : State) :
    Host.Outcome State Fault Refusal :=
  let rx := encode (.aoeUnsupported h command payload)
  s.offer rx (State.accept false command h rx State.aoeUnsupported)
    (fun s => s.receive (s.tagMatches false command h) .ok)

end Sys2Proof.Machine
end

