-- ==== Sys2Proof/Machine/Ata.lean ====
section
/-! DEFINITION. The meanings of the Issue frames: ATA_IDENTIFY (41_responder.md R106), ATA_READ_RETRY (R107 to R109),
ATA_WRITE_RETRY (R110, R111), ATA_UNSUPPORTED (R116) and ATA_RESPONSE (42_initiator.md R140 to R142). -/

namespace Sys2Proof.Machine

open Sys2Proof

/-- An Issue request's form, with `T_ATA` latched (R103). -/
def State.issue (ata : Byte) (form : State → Except Fault State) (s : State) : Except Fault State :=
  form { s with tAta := ata }

/-- `identify()` (R106). -/
def State.identify (s : State) : Except Fault State := do
  let s ← s.setIdCapacity s.idSectors
  let s ← s.setIDeviceReady true
  pure (s.respond (issueHdrBytes + sectorBytes))

/-- `read_start()` (R107, R113). -/
def State.readStart (sub : IssueSub) (s : State) : Except Fault State :=
  let s := { s with tCount := sub.sectorCount, tLba := sub.lba }
  if s.cfg.maxSectors < s.tCount.toNat then .ok (s.drop .dropCount)
  else State.readNext { s with tIdx := 0#9 }

/-- `write_start()` (R110, R113). -/
def State.writeStart (sub : IssueSub) (s : State) : Except Fault State :=
  let s := { s with tCount := sub.sectorCount, tLba := sub.lba }
  if s.cfg.maxSectors < s.tCount.toNat then .ok (s.drop .dropCount)
  else if s.rx.length < issueHdrBytes + sectorBytes * s.tCount.toNat then .ok (s.drop .dropWriteShort)
  else State.writeNext { s with tIdx := 0#9 }

/-- An unsupported ATA command (R116). -/
def State.ataUnsupported (s : State) : Except Fault State := .ok ((s.print .unsupportedAtaCmd).drop .dropAtaCmd)

/-- An Issue request in both roles: the responder's form, and for an INITIATOR a frame that never matches (R138). -/
def State.offerIssue (h : Header) (rx : List Byte) (form : State → Except Fault State) (s : State) :
    Host.Outcome State Fault Refusal :=
  s.offer rx (State.accept false aoeCmdIssue h rx form) (fun s => s.receive (s.tagMatches false aoeCmdIssue h) .ok)

/-- ATA_IDENTIFY (R98, R103, R106). -/
def execAtaIdentify (h : Header) (sub : IssueSub) (data : List Byte) (s : State) : Host.Outcome State Fault Refusal :=
  s.offerIssue h (encode (.ataIdentify h sub data)) (State.issue ataCmdIdentify State.identify)

/-- ATA_READ_RETRY (R98, R103, R107 to R109). -/
def execAtaReadRetry (h : Header) (sub : IssueSub) (data : List Byte) (s : State) : Host.Outcome State Fault Refusal :=
  s.offerIssue h (encode (.ataReadRetry h sub data)) (State.issue ataCmdRead (State.readStart sub))

/-- ATA_WRITE_RETRY (R98, R103, R110, R111). -/
def execAtaWriteRetry (h : Header) (sub : IssueSub) (data : List Byte) (s : State) : Host.Outcome State Fault Refusal :=
  s.offerIssue h (encode (.ataWriteRetry h sub data)) (State.issue ataCmdWrite (State.writeStart sub))

/-- ATA_UNSUPPORTED (R98, R103, R116). -/
def execAtaUnsupported (h : Header) (ata : Byte) (sub : IssueSub) (data : List Byte) (s : State) :
    Host.Outcome State Fault Refusal :=
  s.offerIssue h (encode (.ataUnsupported h ata sub data)) (State.issue ata State.ataUnsupported)

/-- The Identify response decoded (R140). -/
def State.identifyAnswered (h : Header) (rx : List Byte) (s : State) : Except Fault State := do
  let good ← responseOk rx (issueHdrBytes + sectorBytes) h
  if good then
    let capacity ← (Buffer.rx rx).getIdCapacity
    pure (State.complete true .ok [] { s with cSectors := capacity })
  else pure (s.complete false .rejected [])

/-- The Read response decoded (R141). -/
def State.readResponse (h : Header) (rx : List Byte) (s : State) : Except Fault State := do
  let n := sectorBytes * s.opCount.toNat
  let good ← responseOk rx (issueHdrBytes + n) h
  if good then pure (s.complete true .ok ((rx.drop issueHdrBytes).take n))
  else pure (s.complete false .rejected [])

/-- The Write response decoded (R142). -/
def State.writeResponse (h : Header) (rx : List Byte) (s : State) : Except Fault State := do
  let good ← responseOk rx issueHdrBytes h
  if good then pure (s.complete true .ok []) else pure (s.complete false .rejected [])

/-- A matching ATA response, by the kind of the outstanding request (R137). With none outstanding, which no run reaches,
no rule decodes it (notes/assumptions/16.md). -/
def State.ataAnswered (h : Header) (rx : List Byte) (s : State) : Except Fault State :=
  match s.opKind with
  | .identify => s.identifyAnswered h rx
  | .read     => s.readResponse h rx
  | .write    => s.writeResponse h rx
  | .query    => .ok s
  | .none     => .ok s

/-- ATA_RESPONSE (R137, R138, R140 to R143). A RESPONDER drops it in validation (R98). -/
def execAtaResponse (h : Header) (r : IssueTail) (s : State) : Host.Outcome State Fault Refusal :=
  let rx := encode (.ataResponse h r)
  s.offer rx (State.accept true aoeCmdIssue h rx .ok)
    (fun s => s.receive (s.tagMatches true aoeCmdIssue h) (State.ataAnswered h rx))

end Sys2Proof.Machine
end

