-- ==== Sys2Proof/Machine/Query.lean ====
section
/-! DEFINITION. The meanings of the Query frames: QUERY_CONFIG (41_responder.md R105) and QUERY_RESPONSE (42_initiator.md
R139). -/

namespace Sys2Proof.Machine

open Sys2Proof

/-- `query_config()` (R105). The request's own sub-header is not read. -/
def State.queryConfig (s : State) : Except Fault State := do
  let s ← s.setQBufferCount s.cfg.qcBufferCount
  let s ← s.setQFirmwareVersion s.cfg.qcFirmwareVersion
  let s ← s.setQSectorCount s.cfg.qcSectorCount
  let s ← s.setQAoeVer aoeVersion
  let s ← s.setQCslen 0#16
  pure (s.respond queryRspBytes)

/-- QUERY_CONFIG (R98, R102, R105). An INITIATOR never matches a request (R138). -/
def execQueryConfig (h : Header) (q : QueryTail) (s : State) : Host.Outcome State Fault Refusal :=
  let rx := encode (.queryConfig h q)
  s.offer rx (State.accept false aoeCmdQuery h rx State.queryConfig)
    (fun s => s.receive (s.tagMatches false aoeCmdQuery h) .ok)

/-- The query response decoded (R139): no `DONE`, the CONNECT has completed already. -/
def State.queryAnswered (h : Header) (s : State) : State :=
  if headerOk h then { s with dest := h.src, cstate := .connected, opKind := .none, cOutcome := .bound }
  else { s with cstate := .disconnected, opKind := .none, cOutcome := .rejected }

/-- QUERY_RESPONSE (R137 to R139). A RESPONDER drops it in validation (R98). -/
def execQueryResponse (h : Header) (q : QueryTail) (s : State) : Host.Outcome State Fault Refusal :=
  let rx := encode (.queryResponse h q)
  s.offer rx (State.accept true aoeCmdQuery h rx .ok)
    (fun s => s.receive (s.tagMatches true aoeCmdQuery h) (fun s => .ok (s.queryAnswered h)))

end Sys2Proof.Machine
end

