-- ==== Sys2Proof/Machine/Dispatch.lean ====
section
/-! DEFINITION. One arm per row of spec/opcode_table.json, each one direct call of the row's meaning. -/

namespace Sys2Proof.Machine

open Sys2Proof

def exec (i : Instr) (s : State) : Host.Outcome State Fault Refusal :=
  match i with
  | .queryConfig h q => Sys2Proof.Machine.execQueryConfig h q s
  | .ataIdentify h sub data => Sys2Proof.Machine.execAtaIdentify h sub data s
  | .ataReadRetry h sub data => Sys2Proof.Machine.execAtaReadRetry h sub data s
  | .ataWriteRetry h sub data => Sys2Proof.Machine.execAtaWriteRetry h sub data s
  | .ataUnsupported h ata sub data => Sys2Proof.Machine.execAtaUnsupported h ata sub data s
  | .aoeUnsupported h command payload => Sys2Proof.Machine.execAoeUnsupported h command payload s
  | .queryResponse h q => Sys2Proof.Machine.execQueryResponse h q s
  | .ataResponse h r => Sys2Proof.Machine.execAtaResponse h r s

end Sys2Proof.Machine
end

