-- ==== Sys2Proof/Machine/HostCommands.lean ====
section
/-! DEFINITION. The host's commands (42_initiator.md R132 to R135), up to the transmit request each one issues; what the
transmit's answer does is `State.sent` in Machine/Initiator.lean. -/

namespace Sys2Proof.Machine

open Sys2Proof

/-- CONNECT (R132). -/
def State.connect (s : State) : Except Fault State := do
  let s ← s.composeHeader Mac.broadcast majorBroadcast minorBroadcast aoeCmdQuery
  pure (State.send queryRspBytes { s with opKind := .query })

/-- IDENTIFY in `C_CONNECTED` (R133). -/
def State.hostIdentify (s : State) : Except Fault State := do
  let s ← s.composeIssueHeader
  let s ← s.setISectorCount 1#8
  let s ← s.setICmdStatus ataCmdIdentify
  pure (State.send issueHdrBytes { s with opKind := .identify, opCount := 0#8 })

/-- READ in `C_CONNECTED` (R134, R136). -/
def State.hostRead (sector count : Nat) (s : State) : Except Fault State :=
  if argsOk s.cfg sector count then do
    let s ← s.composeIssueHeader
    let s ← s.setISectorCount (BitVec.ofNat 8 count)
    let s ← s.setICmdStatus ataCmdRead
    let s ← s.setILba (BitVec.ofNat 24 sector)
    pure (State.send issueHdrBytes { s with opKind := .read, opCount := BitVec.ofNat 8 count })
  else .ok (s.complete false .badArgs [])

/-- WRITE in `C_CONNECTED` (R135, R136). -/
def State.hostWrite (sector count : Nat) (wdata : List Byte) (s : State) : Except Fault State :=
  if argsOk s.cfg sector count ∧ wdata.length = sectorBytes * count then do
    let s ← s.composeIssueHeader
    let s ← s.setIAflags aflagWrite
    let s ← s.setISectorCount (BitVec.ofNat 8 count)
    let s ← s.setICmdStatus ataCmdWrite
    let s ← s.setILba (BitVec.ofNat 24 sector)
    let s ← State.setWindows count 0 wdata s
    pure (State.send (issueHdrBytes + sectorBytes * count) { s with opKind := .write, opCount := BitVec.ofNat 8 count })
  else .ok (s.complete false .badArgs [])

/-- An operation: refused before discovery completes (R128), the state being checked before the arguments (R154). -/
def State.operation (op : State → Except Fault State) (s : State) : Except Fault State :=
  if s.cstate = .connected then op s else .ok s.refuseNotConnected

/-- A host command in a state that accepts it (R127). -/
def State.hostCommand (cmd : HostCmd) (s : State) : Except Fault State :=
  match cmd with
  | .connect                    => s.connect
  | .identify                   => s.operation State.hostIdentify
  | .read sector count          => s.operation (State.hostRead sector count)
  | .write sector count wdata   => s.operation (State.hostWrite sector count wdata)

end Sys2Proof.Machine
end

