-- ==== Sys2Proof/Machine/Fetch.lean ====
section
/-! DEFINITION. How the next input comes to be taken. The block has no program counter: its next "instruction" is the first
input at its ports that its state accepts (10_state.md R24, 60_exceptions.md R155; notes/assumptions/1.md). -/

namespace Sys2Proof.Machine

open Sys2Proof

/-- The first input that is accepted, with the inputs that stay at the ports. -/
def firstAccepted (p : Input → Bool) : List Input → Option (Input × List Input)
  | []      => none
  | i :: is => if p i then some (i, is) else (firstAccepted p is).map (fun r => (r.1, i :: r.2))

/-- `RESET` (70_reset_and_hazards.md R167): every register to its reset value, any outstanding request abandoned, then
`init()` for a RESPONDER. What stands at the ports and what was put out stay, and requests are numbered on, so that no
answer to an abandoned request is ever taken (60_exceptions.md R156). -/
def State.doReset (s : State) : Except Fault State :=
  let t := { State.resetOf s.cfg with
    tx := Memory.empty, rstate := .idle
    inputs := s.inputs, reqNo := s.reqNo, outputs := s.outputs, prints := s.prints }
  match s.cfg.role with
  | .responder => t.init
  | .initiator => .ok t

/-- A frame: decoded (R61) and run, or taken without a form. -/
def State.takeFrame (rx : List Byte) (s : State) : Host.Outcome State Fault Refusal :=
  match decode rx with
  | .ok i    => exec i s
  | .error e => s.takeUndecoded e rx

/-- The transmit answer in the state that awaits it (R118, R122, R131). -/
def State.takeTxAnswer (ok : Bool) (s : State) : State :=
  match s.cfg.role with
  | .responder => if s.rstate = .initTxWait then s.announced ok else s.transmitted ok
  | .initiator => s.sent ok

/-- Take an accepted input. -/
def State.take (inp : Input) (s : State) : Host.Outcome State Fault Refusal :=
  match inp with
  | .reset             => toOutcome s.doReset
  | .frame rx          => s.takeFrame rx
  | .host cmd          => toOutcome (s.hostCommand cmd)
  | .timeout           => .next s.timedOut
  | .txAnswer _ ok     => .next (s.takeTxAnswer ok)
  | .readAnswer _ ok d => toOutcome (s.readAnswered ok d)
  | .writeAnswer _ ok  => toOutcome (s.writeAnswered ok)

/-- Take the first accepted input, if there is one; otherwise the block rests (60_exceptions.md R166;
notes/assumptions/2.md). -/
def State.takeNext (s : State) : Host.Outcome State Fault Refusal :=
  match firstAccepted s.accepts s.inputs with
  | some (inp, rest) => State.take inp { s with inputs := rest }
  | none             => .next s

/-- Whether the responder's internal step is due: `R_DONE` (41_responder.md R120). -/
def State.clearDue (s : State) : Bool := decide (s.cfg.role = .responder) && decide (s.rstate = .done)

/-- Whether the input that arrives now is `RESET`, which is taken in every state, before the internal step too (R155,
R156; notes/assumptions/13.md). -/
def State.resetNow (s : State) : Bool := s.inputs.head? == some .reset

/-- One step of the block. -/
def State.advance (s : State) : Host.Outcome State Fault Refusal :=
  if s.clearDue && !s.resetNow then .next s.finalClear else s.takeNext

/-- The block at rest between transactions, where it accepts a frame: what `withFetchWord` needs of a state that waits on
a collaborator or for its final clear (notes/assumptions/7.md). -/
def State.settle (s : State) : State :=
  match s.cfg.role with
  | .responder => if s.rstate = .idle then s else s.finalClear
  | .initiator => if s.cstate = .txWait then { s.clearTx with cstate := .disconnected, opKind := .none } else s

/-- A frame as the next input, on a link that carries frames of its length. -/
def State.present (rx : List Byte) (s : State) : State :=
  { s.settle with
    cfg    := { s.cfg with rxMaxBytes := max s.cfg.rxMaxBytes rx.length }
    inputs := .frame rx :: s.inputs }

end Sys2Proof.Machine
end

