-- ==== Sys2Proof/Machine/Step.lean ====
section
/-! DEFINITION. One step of the machine (00_scope.md R12), and a word of the opcode table placed as its next input. -/

namespace Sys2Proof.Machine

open Sys2Proof

/-- One atomic step: the responder's internal final clear, or the first accepted input at the ports. -/
def step (s : State) : Host.Outcome State Fault Refusal := s.advance

/-- `s` with the frame of a table word as the very next input. -/
def State.withFetchWord (s : State) (nbits w : Nat) : State := s.present (frameOfKey nbits w)

end Sys2Proof.Machine
end

