-- ==== Sys2Proof/Safety.lean ====
section
/-! DEFINITION. The terms the statements use: the invariant of every run, when a role is ready for an input, the frames of
30_encoding.md R64 and R65 written out byte by byte, and the validation of 41_responder.md R98 over raw bytes. The
frames and the checks are written with the spec's literal values, apart from the machine's own accessors. -/

namespace Sys2Proof.Machine

open Sys2Proof

/-! ### The invariant -/

/-- `TX` holds its canonical form and no byte outside `[0, TXBUF_BYTES)` (R19, R68). -/
abbrev State.TxOk (s : State) : Prop := s.tx.wf ∧ ∀ c ∈ s.tx, c.1 < s.cfg.txbufBytes

/-- The identity registers hold what reset loaded (R22, R167). -/
abbrev State.IdentityOk (s : State) : Prop :=
  s.idMajor = s.cfg.cfgMajor ∧ s.idMinor = s.cfg.cfgMinor ∧ s.idSectors = resetSectors s.cfg

/-- The responder: the buffer is clear in `R_IDLE` (R20, R125); no frame is held outside a transaction (R26); a storage
wait is at a sector of the request, which fits the buffer and, for a Write, the held frame (R107, R110); a response in
transmission is valid (R118). -/
abbrev State.ResponderOk (s : State) : Prop :=
  (s.rstate = .idle → s.tx = Memory.empty) ∧
  (s.rstate = .idle ∨ s.rstate = .initTxWait → s.rx = []) ∧
  (s.rstate = .sreadWait ∨ s.rstate = .swriteWait →
    s.tIdx.toNat < s.tCount.toNat ∧ s.tCount.toNat ≤ s.cfg.maxSectors) ∧
  (s.rstate = .swriteWait → 36 + 512 * s.tCount.toNat ≤ s.rx.length) ∧
  (s.rstate = .txWait → s.rspValid = true)

/-- The initiator: the buffer is clear outside `C_TX_WAIT` (R20), and `OP_KIND` says what `CSTATE` waits for (R127,
R131). -/
abbrev State.InitiatorOk (s : State) : Prop :=
  (s.cstate ≠ .txWait → s.tx = Memory.empty) ∧
  (s.cstate = .disconnected ∨ s.cstate = .connected → s.opKind = .none) ∧
  (s.cstate = .awaitQuery → s.opKind = .query) ∧
  (s.cstate = .awaitOp → s.opKind = .identify ∨ s.opKind = .read ∨ s.opKind = .write) ∧
  (s.cstate = .txWait → s.opKind ≠ .none)

/-- What holds in every state of a run, for every configuration R7 allows. -/
abbrev State.Inv (s : State) : Prop :=
  s.cfg.wf ∧ s.TxOk ∧ s.IdentityOk ∧
  (s.cfg.role = .responder → s.ResponderOk) ∧ (s.cfg.role = .initiator → s.InitiatorOk)

/-! ### When a role is ready -/

/-- A responder between transactions, its buffer clear (R20, R97). -/
abbrev State.Ready (s : State) : Prop :=
  s.cfg.wf ∧ s.cfg.role = .responder ∧ s.rstate = .idle ∧ s.tx = Memory.empty

/-- The link can deliver a frame of these bytes (R24). -/
abbrev State.Fits (s : State) (rx : List Byte) : Prop := rx.length ≤ s.cfg.rxMaxBytes

/-- An initiator in the state `c`, its buffer clear (R20). -/
abbrev State.InitiatorIn (s : State) (c : CState) : Prop :=
  s.cfg.wf ∧ s.cfg.role = .initiator ∧ s.cstate = c ∧ s.tx = Memory.empty

/-- A request's header passes the checks of R98 at this responder. -/
abbrev State.RequestOk (s : State) (h : Header) : Prop :=
  (h.dst = ⟨0xFF#8, 0xFF#8, 0xFF#8, 0xFF#8, 0xFF#8, 0xFF#8⟩ ∨ h.dst = ⟨0#8, 0#8, 0#8, 0#8, 0#8, 0#8⟩) ∧
  h.etype = 0x88A2#16 ∧ h.ver = 1#4 ∧ h.flagError = false ∧ h.error = 0#8 ∧
  (h.major = s.idMajor ∨ h.major = 0xFFFF#16) ∧ (h.minor = s.idMinor ∨ h.minor = 0xFF#8)

/-- A response's header matches the outstanding request of this initiator, but for the command (R138). -/
abbrev State.ResponseMatches (s : State) (h : Header) : Prop :=
  h.etype = 0x88A2#16 ∧ h.ver = 1#4 ∧ h.tag = s.tag

/-- A response's header reports success (R139 to R142). -/
abbrev ResponseOkHeader (h : Header) : Prop := h.flagError = false ∧ h.error = 0#8

/-! ### The registers of a transaction -/

/-- A state whose latches hold the request in progress and whose result registers are clear (R98, R100, R103, R107). -/
def State.inTransaction (s : State) (rx : List Byte) (cmd ata : Byte) (lba : BitVec 24) (count : Byte) : State :=
  { s with
    rx := rx, tCmd := cmd, tAta := ata, tLba := lba, tCount := count, tIdx := 0#9
    rspValid := false, rspLen := 0#18, outcome := .none, failIdx := 0#9 }

/-- The code of the first check of R98 that the raw bytes of a frame fail, `none` if they pass them all. -/
def firstFailedCheck (major : BitVec 16) (minor : Byte) (rx : List Byte) : Option RCode :=
  let b (k : Nat) : Byte := rx.getD k 0#8
  if rx.length < 24 then some .dropShort
  else if rx.take 6 ≠ List.replicate 6 0xFF#8 ∧ rx.take 6 ≠ List.replicate 6 0x00#8 then some .dropDst
  else if b 12 ≠ 0x88#8 ∨ b 13 ≠ 0xA2#8 then some .dropType
  else if (b 14).toNat / 16 ≠ 1 then some .dropVersion
  else if (b 14).getLsbD 2 = true then some .dropEflag
  else if (b 14).getLsbD 3 = true then some .dropRflag
  else if b 15 ≠ 0#8 then some .dropError
  else if (b 16).toNat * 256 + (b 17).toNat ≠ major.toNat ∧ (b 16).toNat * 256 + (b 17).toNat ≠ 0xFFFF then
    some .dropMajor
  else if b 18 ≠ minor ∧ b 18 ≠ 0xFF#8 then some .dropMinor
  else none

/-- The tag matcher of R138 over raw bytes. -/
def matchesRaw (kind : OpKind) (tag : BitVec 32) (rx : List Byte) : Bool :=
  let b (k : Nat) : Byte := rx.getD k 0#8
  decide (24 ≤ rx.length) && b 12 == 0x88#8 && b 13 == 0xA2#8 && decide ((b 14).toNat / 16 = 1)
    && (b 14).getLsbD 3 && (b 19 == if kind = .query then 0x01#8 else 0x00#8)
    && decide ((b 20).toNat * 2 ^ 24 + (b 21).toNat * 2 ^ 16 + (b 22).toNat * 2 ^ 8 + (b 23).toNat = tag.toNat)

/-! ### The frames of R64 and R65 -/

/-- Bytes 0 to 23 of a reply of the responder (R64). -/
def replyHeader (major : BitVec 16) (minor : Byte) (h : Header) (cmd : Byte) : List Byte :=
  h.src.toList ++ [0#8, 0#8, 0#8, 0#8, 0#8, 0#8, 0x88#8, 0xA2#8, 0x18#8, 0x00#8]
    ++ be16Bytes major ++ [minor, cmd] ++ be32Bytes h.tag

/-- Bytes 24 to 35 of an Issue reply: the status byte and zeros (R64). -/
def replyStatus (status : Byte) : List Byte :=
  [0#8, 0#8, 0#8, status, 0#8, 0#8, 0#8, 0#8, 0#8, 0#8, 0#8, 0#8]

/-- Bytes 24 to 31 of a Query reply (R64). -/
def replyQuery (c : Config) : List Byte :=
  be16Bytes c.qcBufferCount ++ be16Bytes c.qcFirmwareVersion ++ [c.qcSectorCount, 0x10#8, 0x00#8, 0x00#8]

/-- Bytes 0 to 23 of a request of the initiator (R65). -/
def requestHeader (dst : Mac) (major : BitVec 16) (minor cmd : Byte) (tag : BitVec 32) : List Byte :=
  dst.toList ++ [0#8, 0#8, 0#8, 0#8, 0#8, 0#8, 0x88#8, 0xA2#8, 0x10#8, 0x00#8]
    ++ be16Bytes major ++ [minor, cmd] ++ be32Bytes tag

/-- Bytes 24 to 35 of an Issue request of the initiator (R65). -/
def requestIssue (aflags count cmd : Byte) (lba : BitVec 24) : List Byte :=
  [aflags, 0x00#8, count, cmd] ++ le24Bytes lba ++ [0#8, 0#8, 0#8, 0#8, 0#8]

/-- The data windows of consecutive sectors, one after the other (R58). -/
def sectorBytesOf (ds : List Sector) : List Byte := (ds.map (fun d => d.toList)).flatten

/-! ### Answers in order -/

/-- Successful answers to consecutive storage reads, the first to request `n`. -/
def readAnswers (n : Nat) : List Sector → List Input
  | []      => []
  | d :: ds => .readAnswer n true d :: readAnswers (n + 1) ds

/-- `k` successful answers to consecutive storage writes, the first to request `n`. -/
def writeAnswers (n : Nat) : Nat → List Input
  | 0     => []
  | k + 1 => .writeAnswer n true :: writeAnswers (n + 1) k

/-- The storage reads of consecutive sectors from `lba` on (R108, R112). -/
def readRequests (lba : Nat) : Nat → List Output
  | 0     => []
  | k + 1 => .sread lba :: readRequests (lba + 1) k

/-- The storage writes of consecutive sectors from `lba` on (R111, R112). -/
def writeRequests (lba : Nat) : List Sector → List Output
  | []      => []
  | d :: ds => .swrite lba d :: writeRequests (lba + 1) ds

/-- An output event on the transmit port. -/
def Output.isTransmit : Output → Bool
  | .txReq _ _ _ => true
  | .sread _     => false
  | .swrite _ _  => false
  | .done _ _ _  => false

end Sys2Proof.Machine
end

