-- ==== Sys2Proof/Certificates/Slice0/Obligations.lean ====
section
/-! DEFINITION. The statements for the provers, one `def Obligations.<Name> : Prop` each, listed with their rules in
OBLIGATIONS.json. They range over every state, and so over every configuration `cfg` and everything that may stand at the
ports. A statement about an input is about the step that takes it. Diagnostics (`prints`) are left free (R121). -/

open Sys2Proof Sys2Proof.Machine

/-! ### Encoding -/

/-- Every frame of the opcode table decodes to itself, with every field at every value (30_encoding.md R53 to R61). -/
def Obligations.DecodeUndoesEncode : Prop :=
  ∀ i : Instr, i.wellFormed = true → decode (encode i) = .ok i

/-- A frame that has a form has exactly one: its bytes are that form's encoding, none of them dropped (R52, R60, R61). -/
def Obligations.EncodeUndoesDecode : Prop :=
  ∀ (rx : List Byte) (i : Instr), decode rx = .ok i → encode i = rx ∧ i.wellFormed = true

/-- The decoder's tests select the first row of the opcode table that the dispatch key matches, and a response of another
command matches no row (R61). -/
def Obligations.DecodeSelectsTheFirstMatchingRow : Prop :=
  ∀ rx : List Byte,
    (∀ i, decode rx = .ok i → selectRow (dispatchKey rx) = some i.mnemonic) ∧
    (∀ h c, decode rx = .error (.noRow h c) → selectRow (dispatchKey rx) = none)

/-- Frames of 95_test_vectors.md written out byte by byte decode to the forms they stand for. -/
def Obligations.WrittenOutFramesDecode : Prop :=
  decode [0xFF#8, 0xFF#8, 0xFF#8, 0xFF#8, 0xFF#8, 0xFF#8, 0x02#8, 0x00#8, 0x00#8, 0x00#8, 0x00#8, 0xAA#8, 0x88#8, 0xA2#8,
      0x10#8, 0x00#8, 0xFF#8, 0xFF#8, 0xFF#8, 0x01#8, 0xDE#8, 0xAD#8, 0xBE#8, 0xEF#8]
    = .ok (.queryConfig
        { dst := ⟨0xFF#8, 0xFF#8, 0xFF#8, 0xFF#8, 0xFF#8, 0xFF#8⟩, src := ⟨0x02#8, 0x00#8, 0x00#8, 0x00#8, 0x00#8, 0xAA#8⟩
          etype := 0x88A2#16, ver := 1#4, flagError := false, flagsRsvd := 0#2, error := 0x00#8, major := 0xFFFF#16
          minor := 0xFF#8, tag := 0xDEADBEEF#32 } (.short [])) ∧
  decode [0x00#8, 0x00#8, 0x00#8, 0x00#8, 0x00#8, 0x00#8, 0x02#8, 0x00#8, 0x00#8, 0x00#8, 0x00#8, 0xAA#8, 0x88#8, 0xA2#8,
      0x10#8, 0x00#8, 0x00#8, 0x01#8, 0x02#8, 0x00#8, 0xDE#8, 0xAD#8, 0xBE#8, 0xEF#8, 0x00#8, 0x00#8, 0x04#8, 0x20#8,
      0x64#8, 0x00#8, 0x00#8, 0x00#8, 0x00#8, 0x00#8, 0x00#8, 0x00#8]
    = .ok (.ataReadRetry
        { dst := ⟨0x00#8, 0x00#8, 0x00#8, 0x00#8, 0x00#8, 0x00#8⟩, src := ⟨0x02#8, 0x00#8, 0x00#8, 0x00#8, 0x00#8, 0xAA#8⟩
          etype := 0x88A2#16, ver := 1#4, flagError := false, flagsRsvd := 0#2, error := 0x00#8, major := 0x0001#16
          minor := 0x02#8, tag := 0xDEADBEEF#32 }
        { aflags := 0x00#8, errFeature := 0x00#8, sectorCount := 0x04#8, lba := 100#24, lba3 := 0x00#8, lba4 := 0x00#8
          lba5 := 0x00#8, rsvd0 := 0x00#8, rsvd1 := 0x00#8 } [])

/-! ### The codec -/

/-- A setter and getter of one field of `w` bytes at offset `o`: inside the buffer the setter completes, the getter reads
the value back, no other byte and no register changes; outside it both stop with `CODEC_BOUNDS` (40_codec.md R67, R68). -/
def AccessorLaw {α : Type} (o w : Nat) (set : α → State → Except Fault State) (get : Buffer → Except Fault α) : Prop :=
  ∀ (v : α) (s : State),
    (o + w ≤ 36 + 512 * s.cfg.maxSectors →
      ∃ tx', set v s = .ok { s with tx := tx' } ∧ get (.tx tx' (36 + 512 * s.cfg.maxSectors)) = .ok v ∧
        ∀ a, a < o ∨ o + w ≤ a → tx'.read a = s.tx.read a) ∧
    (36 + 512 * s.cfg.maxSectors < o + w → ∃ acc, set v s = .error (.codecBounds acc o) ∧
      get (.tx s.tx (36 + 512 * s.cfg.maxSectors)) = .error (.codecBounds acc o))

/-- Every accessor of 40_codec.md obeys its law (R67 to R94). -/
def Obligations.CodecAccessorsReadBackWhatTheySet : Prop :=
  AccessorLaw 0 6 State.setEthDst Buffer.getEthDst ∧ AccessorLaw 6 6 State.setEthSrc Buffer.getEthSrc ∧
  AccessorLaw 12 2 State.setEthType Buffer.getEthType ∧ AccessorLaw 14 1 State.setAoeVer Buffer.getAoeVer ∧
  AccessorLaw 14 1 State.setAoeFlagResponse Buffer.getAoeFlagResponse ∧
  AccessorLaw 14 1 State.setAoeFlagError Buffer.getAoeFlagError ∧ AccessorLaw 15 1 State.setAoeError Buffer.getAoeError ∧
  AccessorLaw 16 2 State.setAoeMajor Buffer.getAoeMajor ∧ AccessorLaw 18 1 State.setAoeMinor Buffer.getAoeMinor ∧
  AccessorLaw 19 1 State.setAoeCommand Buffer.getAoeCommand ∧ AccessorLaw 20 4 State.setAoeTag Buffer.getAoeTag ∧
  AccessorLaw 24 2 State.setQBufferCount Buffer.getQBufferCount ∧
  AccessorLaw 26 2 State.setQFirmwareVersion Buffer.getQFirmwareVersion ∧
  AccessorLaw 28 1 State.setQSectorCount Buffer.getQSectorCount ∧ AccessorLaw 29 1 State.setQAoeVer Buffer.getQAoeVer ∧
  AccessorLaw 29 1 State.setQCcmd Buffer.getQCcmd ∧ AccessorLaw 30 2 State.setQCslen Buffer.getQCslen ∧
  AccessorLaw 24 1 State.setIAflags Buffer.getIAflags ∧ AccessorLaw 25 1 State.setIErrFeature Buffer.getIErrFeature ∧
  AccessorLaw 26 1 State.setISectorCount Buffer.getISectorCount ∧
  AccessorLaw 27 1 State.setICmdStatus Buffer.getICmdStatus ∧
  AccessorLaw 27 1 State.setIDeviceReady Buffer.getIDeviceReady ∧
  AccessorLaw 27 1 State.setIStatusError Buffer.getIStatusError ∧ AccessorLaw 28 3 State.setILba Buffer.getILba ∧
  AccessorLaw 236 8 State.setIdCapacity Buffer.getIdCapacity ∧
  ∀ k, AccessorLaw (36 + 512 * k) 512 (State.setData k) (Buffer.getData k)

/-- A bit-field setter keeps every other bit of its byte (R40, R72 to R74, R83, R84, R90, R91). -/
def Obligations.BitFieldSettersKeepTheOtherBits : Prop :=
  ∀ (s : State) (v : BitVec 4) (f : Bool),
    (∃ m, s.setAoeVer v = .ok { s with tx := m } ∧ ∀ k, k < 4 → (m.read 14).getLsbD k = (s.tx.read 14).getLsbD k) ∧
    (∃ m, s.setAoeFlagResponse f = .ok { s with tx := m } ∧
      ∀ k, k < 8 → k ≠ 3 → (m.read 14).getLsbD k = (s.tx.read 14).getLsbD k) ∧
    (∃ m, s.setAoeFlagError f = .ok { s with tx := m } ∧
      ∀ k, k < 8 → k ≠ 2 → (m.read 14).getLsbD k = (s.tx.read 14).getLsbD k) ∧
    (∃ m, s.setQAoeVer v = .ok { s with tx := m } ∧ ∀ k, k < 4 → (m.read 29).getLsbD k = (s.tx.read 29).getLsbD k) ∧
    (∃ m, s.setQCcmd v = .ok { s with tx := m } ∧
      ∀ k, 4 ≤ k → k < 8 → (m.read 29).getLsbD k = (s.tx.read 29).getLsbD k) ∧
    (∃ m, s.setIDeviceReady f = .ok { s with tx := m } ∧
      ∀ k, k < 8 → k ≠ 6 → (m.read 27).getLsbD k = (s.tx.read 27).getLsbD k) ∧
    (∃ m, s.setIStatusError f = .ok { s with tx := m } ∧
      ∀ k, k < 8 → k ≠ 0 → (m.read 27).getLsbD k = (s.tx.read 27).getLsbD k)

/-! ### Reset -/

/-- What `RESET` leaves in the registers under a configuration (10_state.md R29, 70_reset_and_hazards.md R167, R168), and
that the model's state after reset is that state. `STRAY_CNT`, `RDATA` and every latch are 0 or empty. The configuration
of `State.reset` is the model's choice (notes/assumptions/4.md), as is that reset ends before the announce is answered
(notes/assumptions/6.md). -/
def Obligations.ResetValuesAreThoseOfTheSpec : Prop :=
  (∀ c : Config, ∃ t, State.resetOf c = t ∧
    t.idMajor = c.cfgMajor ∧ t.idMinor = c.cfgMinor ∧
    t.idSectors = (if c.role = .responder then c.cfgSectors else 0#64) ∧
    t.rstate = (if c.role = .responder ∧ c.announceOnInit = true then .initTxWait else .idle) ∧
    t.tCmd = 0#8 ∧ t.tAta = 0#8 ∧ t.tLba = 0#24 ∧ t.tCount = 0#8 ∧ t.tIdx = 0#9 ∧
    t.rspValid = false ∧ t.rspLen = 0#18 ∧ t.failIdx = 0#9 ∧ t.outcome.code = 0xFF#8 ∧
    t.cstate = .disconnected ∧ t.tag = 0#32 ∧ t.dest = ⟨0#8, 0#8, 0#8, 0#8, 0#8, 0#8⟩ ∧ t.cSectors = 0#64 ∧
    t.opKind = .none ∧ t.opCount = 0#8 ∧ t.strayCnt = 0 ∧ t.cResult = false ∧ t.cOutcome.code = 0xFF#8 ∧
    t.cCode = 0#8 ∧ t.rdata = [] ∧
    (¬ (c.role = .responder ∧ c.announceOnInit = true) → t.tx = Memory.empty ∧ t.outputs = [])) ∧
  State.reset = State.resetOf Config.standard

/-- `RESET` is taken in every state: every register takes its reset value, the buffer is cleared, and a RESPONDER that
announces has put out the 32-byte announce (R122, R156, R167). Inputs still at the ports and events already put out stay,
and requests are numbered on: the model's own (notes/assumptions/3.md, 10.md). -/
def Obligations.ResetReloadsEveryRegister : Prop :=
  ∀ (s : State) (rest : List Input), s.inputs = .reset :: rest →
    step s = .next { State.resetOf s.cfg with
      inputs := rest, prints := s.prints
      reqNo := s.reqNo + (if s.cfg.role = .responder ∧ s.cfg.announceOnInit = true then 1 else 0)
      outputs := s.outputs ++ (if s.cfg.role = .responder ∧ s.cfg.announceOnInit = true then
        [.txReq ([0xFF#8, 0xFF#8, 0xFF#8, 0xFF#8, 0xFF#8, 0xFF#8, 0x00#8, 0x00#8, 0x00#8, 0x00#8, 0x00#8, 0x00#8,
          0x88#8, 0xA2#8, 0x10#8, 0x00#8, 0xFF#8, 0xFF#8, 0xFF#8, 0x01#8] ++ List.replicate 12 0x00#8) 32 s.cfg.txTimeout]
        else []) }

/-- No answer to a request that `RESET` abandoned is ever taken, in any later state of the run (R156). That an answer
carries its request's number is the model's (notes/assumptions/3.md). -/
def Obligations.AbandonedAnswersAreNeverTaken : Prop :=
  ∀ (s t u : State) (rest : List Input) (k n : Nat), s.inputs = .reset :: rest → step s = .next t →
    Host.Core.run Sys2Proof.core k t = .next u → n ≤ s.reqNo →
    ∀ (ok : Bool) (d : Sector), u.accepts (.txAnswer n ok) = false ∧ u.accepts (.readAnswer n ok d) = false ∧
      u.accepts (.writeAnswer n ok) = false

/-! ### The invariant of every run, and whole-machine rules -/

/-- The state after reset satisfies the invariant, for every configuration R7 allows. -/
def Obligations.ResetSatisfiesTheInvariant : Prop :=
  (∀ c : Config, c.wf → (State.resetOf c).Inv) ∧ State.reset.Inv

/-- From every state that satisfies the invariant a step answers a next state that satisfies it: no rule reaches
`CODEC_BOUNDS` (R68, R152), the buffer is clear whenever no transaction is in progress (R20, R125), and the identity
registers stay as loaded (R22). -/
def Obligations.EveryStepCompletesAndKeepsTheInvariant : Prop :=
  ∀ s : State, s.Inv → ∃ t, step s = .next t ∧ t.Inv

/-- The buffer-zero invariant in bytes (R20, R125): wherever no transaction is in progress, after any number of steps from
a state of the invariant, every byte of `TX` is 0x00. -/
def Obligations.TransmitBufferIsZeroBetweenTransactions : Prop :=
  ∀ (s t : State) (k : Nat), s.Inv → Host.Core.run Sys2Proof.core k s = .next t →
    (t.cfg.role = .responder ∧ t.rstate = .idle) ∨ (t.cfg.role = .initiator ∧ t.cstate ≠ .txWait) →
    ∀ a, t.tx.read a = 0x00#8

/-- No step writes the configuration, and no input but `RESET` changes an identity register (R22, R23). -/
def Obligations.ConfigurationAndIdentityNeverChange : Prop :=
  ∀ s t : State, step s = .next t →
    t.cfg = s.cfg ∧
    (.reset ∉ s.inputs → t.idMajor = s.idMajor ∧ t.idMinor = s.idMinor ∧ t.idSectors = s.idSectors)

/-- Each role writes only its own registers: no step of a RESPONDER but `RESET` changes an initiator register, and no
step of an INITIATOR but `RESET` a responder register (R22). -/
def Obligations.EachRoleWritesOnlyItsOwnRegisters : Prop :=
  ∀ s t : State, step s = .next t → .reset ∉ s.inputs →
    (s.cfg.role = .responder →
      t.tag = s.tag ∧ t.dest = s.dest ∧ t.cSectors = s.cSectors ∧ t.opKind = s.opKind ∧ t.opCount = s.opCount ∧
      t.strayCnt = s.strayCnt ∧ t.cResult = s.cResult ∧ t.cOutcome = s.cOutcome ∧ t.cCode = s.cCode ∧
      t.rdata = s.rdata ∧ t.cstate = s.cstate) ∧
    (s.cfg.role = .initiator →
      t.rstate = s.rstate ∧ t.tCmd = s.tCmd ∧ t.tAta = s.tAta ∧ t.tLba = s.tLba ∧ t.tCount = s.tCount ∧
      t.tIdx = s.tIdx ∧ t.rspValid = s.rspValid ∧ t.rspLen = s.rspLen ∧ t.outcome = s.outcome ∧ t.failIdx = s.failIdx)

/-- A step puts out its events after those before it, at most one of them a collaborator request, and numbers it (R44,
R47). The numbering is the model's (notes/assumptions/3.md). -/
def Obligations.StepIssuesAtMostOneRequest : Prop :=
  ∀ s t : State, step s = .next t →
    ∃ es : List Output, t.outputs = s.outputs ++ es ∧
      (es.filter Output.isRequest).length ≤ 1 ∧ t.reqNo = s.reqNo + (es.filter Output.isRequest).length

/-- A responder transmits only a composed response or the announce: every `TXREQ` a step puts out carries the buffer as
it stands, from 0 to a length of R124, and leaves the block waiting for its answer (R43, R118, R122, R124). -/
def Obligations.ResponderTransmitsOnlyWhatItComposed : Prop :=
  ∀ s t : State, s.Inv → s.cfg.role = .responder → step s = .next t →
    ∀ (es : List Output) (bs : List Byte) (len timeout : Nat),
      t.outputs = s.outputs ++ es → .txReq bs len timeout ∈ es →
      bs = t.tx.readRange 0 len ∧ timeout = s.cfg.txTimeout ∧
      ((t.rstate = .txWait ∧ t.rspValid = true ∧ t.rspLen.toNat = len ∧
          (len = 32 ∨ len = 548 ∨ ∃ n, n ≤ s.cfg.maxSectors ∧ len = 36 + 512 * n)) ∨
       (t.rstate = .initTxWait ∧ len = 32))

/-- While a responder waits on a collaborator, only the awaited answer or `RESET` moves it: otherwise the step changes
nothing, whatever stands at the ports (R24, R119, R170). That a block at rest makes a step at all is the model's
(notes/assumptions/2.md). -/
def Obligations.WaitingResponderChangesNothing : Prop :=
  ∀ s : State, s.cfg.role = .responder → s.rstate ≠ .idle → s.rstate ≠ .done → .reset ∉ s.inputs →
    (∀ ok, .txAnswer s.reqNo ok ∉ s.inputs) → (∀ ok d, .readAnswer s.reqNo ok d ∉ s.inputs) →
    (∀ ok, .writeAnswer s.reqNo ok ∉ s.inputs) → step s = .next s

/-- A `DONE` reports the result registers it leaves, and leaves no operation outstanding (R146, R151). -/
def Obligations.DoneReportsTheResultRegisters : Prop :=
  ∀ s t : State, step s = .next t →
    ∀ (es : List Output) (r : Bool) (o : CCode) (d : List Byte),
      t.outputs = s.outputs ++ es → .done r o d ∈ es →
      es = [.done r o d] ∧ t.cResult = r ∧ t.cOutcome = o ∧ t.cstate ≠ .awaitOp ∧ t.cstate ≠ .txWait

/-! ### A step runs the decoded frame -/

/-- The first accepted input being a frame of a form, the step is that form's meaning on the state without that input
(R24, R61, R155). How inputs stand at the ports is the model's (notes/assumptions/1.md). -/
def Obligations.StepRunsTheDecodedFrame : Prop :=
  ∀ (s : State) (pre rest : List Input) (rx : List Byte) (i : Instr),
    s.inputs = pre ++ .frame rx :: rest → (∀ p ∈ pre, s.accepts p = false) → s.accepts (.frame rx) = true →
    decode rx = .ok i → step s = exec i { s with inputs := pre ++ rest }

/-- A frame offered in a state that does not accept it stays at its port, whatever its form; nothing else changes (R24,
R170; that such an offer is a step that puts the frame back is the model's, notes/assumptions/8.md). -/
def Obligations.FrameNotAcceptedStaysAtItsPort : Prop :=
  ∀ (i : Instr) (s : State), s.accepts (.frame (encode i)) = false →
    exec i s = .next { s with inputs := .frame (encode i) :: s.inputs }

/-! ### The responder: validation and drops -/

/-- A frame that fails a check of R98 is dropped with the code of the first check it fails, over the raw bytes; the
buffer is not written, nothing is put out, and only the latches, `OUTCOME` and `RSTATE` change (R98, R99, R123, R154). The
model holds the frame until the final clear (notes/assumptions/12.md). -/
def Obligations.InvalidFrameIsDroppedWithTheFirstFailingCode : Prop :=
  ∀ (s : State) (rx : List Byte) (rest : List Input) (code : RCode),
    s.cfg.role = .responder → s.rstate = .idle → s.Fits rx → s.inputs = .frame rx :: rest →
    firstFailedCheck s.idMajor s.idMinor rx = some code →
    step s = .next { s.inTransaction rx 0x00#8 0x00#8 0#24 0x00#8 with inputs := rest, outcome := code, rstate := .done }

/-- A valid Issue request shorter than 36 bytes is dropped as DROP_ISSUE_SHORT, with nothing put out; the buffer holds the
reply's header, whose destination is the sender and whose tag's four bytes are the request's (R100, R101, R103, R153). -/
def Obligations.ShortIssueFrameIsDropped : Prop :=
  ∀ (s : State) (rx : List Byte) (rest : List Input),
    s.Ready → s.Fits rx → s.inputs = .frame rx :: rest → firstFailedCheck s.idMajor s.idMinor rx = none →
    rx.getD 19 0#8 = 0x00#8 → rx.length < 36 →
    ∃ tx', step s = .next { s.inTransaction rx 0x00#8 0x00#8 0#24 0x00#8 with
      inputs := rest, tx := tx', outcome := .dropIssueShort, rstate := .done } ∧
      tx'.readRange 0 24 = (rx.drop 6).take 6 ++ [0#8, 0#8, 0#8, 0#8, 0#8, 0#8, 0x88#8, 0xA2#8, 0x18#8, 0x00#8]
        ++ be16Bytes s.idMajor ++ [s.idMinor, 0x00#8] ++ (rx.drop 20).take 4 ∧ ∀ a, 24 ≤ a → tx'.read a = 0x00#8

/-- ATA_UNSUPPORTED in a ready responder: dropped as DROP_ATA_CMD with nothing put out (R116, R153). -/
def Obligations.UnsupportedAtaCommandIsDropped : Prop :=
  ∀ (s : State) (h : Header) (ata : Byte) (sub : IssueSub) (data : List Byte),
    s.Ready → s.RequestOk h → s.Fits (encode (.ataUnsupported h ata sub data)) →
    ata ≠ 0xEC#8 → ata ≠ 0x20#8 → ata ≠ 0x30#8 →
    ∃ tx' ps, exec (.ataUnsupported h ata sub data) s =
      .next { s.inTransaction (encode (.ataUnsupported h ata sub data)) 0x00#8 ata 0#24 0x00#8 with
        tx := tx', prints := ps, outcome := .dropAtaCmd, rstate := .done } ∧
      tx'.readRange 0 24 = replyHeader s.idMajor s.idMinor h 0x00#8 ∧ ∀ a, 24 ≤ a → tx'.read a = 0x00#8

/-- AOE_UNSUPPORTED in a ready responder: dropped as DROP_AOE_CMD with nothing put out (R117, R153). -/
def Obligations.UnsupportedAoeCommandIsDropped : Prop :=
  ∀ (s : State) (h : Header) (command : Byte) (payload : List Byte),
    s.Ready → s.RequestOk h → s.Fits (encode (.aoeUnsupported h command payload)) →
    command ≠ 0x00#8 → command ≠ 0x01#8 →
    ∃ tx' ps, exec (.aoeUnsupported h command payload) s =
      .next { s.inTransaction (encode (.aoeUnsupported h command payload)) command 0x00#8 0#24 0x00#8 with
        tx := tx', prints := ps, outcome := .dropAoeCmd, rstate := .done } ∧
      tx'.readRange 0 24 = replyHeader s.idMajor s.idMinor h command ∧ ∀ a, 24 ≤ a → tx'.read a = 0x00#8

/-! ### The responder: the four commands -/

/-- QUERY_CONFIG in a ready responder: the 32-byte Query response of R64 goes out, whatever the request's own
sub-header holds, and every other register is as the accepting step leaves it (R105, R118). -/
def Obligations.QueryConfigSendsTheQueryResponse : Prop :=
  ∀ (s : State) (h : Header) (q : QueryTail),
    s.Ready → s.RequestOk h → s.Fits (encode (.queryConfig h q)) →
    ∃ tx', exec (.queryConfig h q) s =
      .next { s.inTransaction (encode (.queryConfig h q)) 0x01#8 0x00#8 0#24 0x00#8 with
        tx := tx', rspValid := true, rspLen := 32#18, rstate := .txWait, reqNo := s.reqNo + 1
        outputs := s.outputs ++ [.txReq (tx'.readRange 0 32) 32 s.cfg.txTimeout] } ∧
      tx'.readRange 0 32 = replyHeader s.idMajor s.idMinor h 0x01#8 ++ replyQuery s.cfg ∧
      ∀ a, 32 ≤ a → tx'.read a = 0x00#8

/-- ATA_IDENTIFY in a ready responder: the 548-byte Identify response of R64 goes out, `ID_SECTORS` little-endian in bytes
236 to 243 and DRDY set, whatever count, LBA and data the request carries (R106, R118). -/
def Obligations.IdentifySendsTheIdentifyBlock : Prop :=
  ∀ (s : State) (h : Header) (sub : IssueSub) (data : List Byte),
    s.Ready → s.RequestOk h → s.Fits (encode (.ataIdentify h sub data)) →
    ∃ tx', exec (.ataIdentify h sub data) s =
      .next { s.inTransaction (encode (.ataIdentify h sub data)) 0x00#8 0xEC#8 0#24 0x00#8 with
        tx := tx', rspValid := true, rspLen := 548#18, rstate := .txWait, reqNo := s.reqNo + 1
        outputs := s.outputs ++ [.txReq (tx'.readRange 0 548) 548 s.cfg.txTimeout] } ∧
      tx'.readRange 0 548 = replyHeader s.idMajor s.idMinor h 0x00#8 ++ replyStatus 0x40#8 ++ List.replicate 200 0x00#8
        ++ le64Bytes s.idSectors ++ List.replicate 304 0x00#8 ∧
      ∀ a, 548 ≤ a → tx'.read a = 0x00#8

/-- ATA_READ_RETRY of at least one sector in a ready responder: the first storage read goes out, for the request's own
24-bit LBA; only the reply's header is in the buffer (R107, R108, R112). -/
def Obligations.ReadRequestsTheFirstSector : Prop :=
  ∀ (s : State) (h : Header) (sub : IssueSub) (data : List Byte),
    s.Ready → s.RequestOk h → s.Fits (encode (.ataReadRetry h sub data)) →
    1 ≤ sub.sectorCount.toNat → sub.sectorCount.toNat ≤ s.cfg.maxSectors →
    ∃ tx', exec (.ataReadRetry h sub data) s =
      .next { s.inTransaction (encode (.ataReadRetry h sub data)) 0x00#8 0x20#8 sub.lba sub.sectorCount with
        tx := tx', rstate := .sreadWait, reqNo := s.reqNo + 1, outputs := s.outputs ++ [.sread sub.lba.toNat] } ∧
      tx'.readRange 0 24 = replyHeader s.idMajor s.idMinor h 0x00#8 ∧ ∀ a, 24 ≤ a → tx'.read a = 0x00#8

/-- ATA_WRITE_RETRY of at least one sector whose data windows are all in the frame, in a ready responder: the first
storage write goes out with window 0 of the frame (R110, R111, R112). -/
def Obligations.WriteRequestsTheFirstSector : Prop :=
  ∀ (s : State) (h : Header) (sub : IssueSub) (data : List Byte),
    s.Ready → s.RequestOk h → s.Fits (encode (.ataWriteRetry h sub data)) →
    1 ≤ sub.sectorCount.toNat → sub.sectorCount.toNat ≤ s.cfg.maxSectors →
    512 * sub.sectorCount.toNat ≤ data.length →
    ∃ (tx' : Memory) (d : Sector), d.toList = data.take 512 ∧
      exec (.ataWriteRetry h sub data) s =
        .next { s.inTransaction (encode (.ataWriteRetry h sub data)) 0x00#8 0x30#8 sub.lba sub.sectorCount with
          tx := tx', rstate := .swriteWait, reqNo := s.reqNo + 1, outputs := s.outputs ++ [.swrite sub.lba.toNat d] } ∧
      tx'.readRange 0 24 = replyHeader s.idMajor s.idMinor h 0x00#8 ∧ ∀ a, 24 ≤ a → tx'.read a = 0x00#8

/-- A Read or Write of no sector issues no storage request and succeeds at once with the 36-byte status reply (R113). -/
def Obligations.TransferOfNoSectorSucceedsAtOnce : Prop :=
  ∀ (s : State) (h : Header) (sub : IssueSub) (data : List Byte),
    s.Ready → s.RequestOk h → s.Fits (encode (.ataReadRetry h sub data)) → s.Fits (encode (.ataWriteRetry h sub data)) →
    sub.sectorCount = 0x00#8 →
    (∃ tx', exec (.ataReadRetry h sub data) s =
      .next { s.inTransaction (encode (.ataReadRetry h sub data)) 0x00#8 0x20#8 sub.lba 0x00#8 with
        tx := tx', rspValid := true, rspLen := 36#18, rstate := .txWait, reqNo := s.reqNo + 1
        outputs := s.outputs ++ [.txReq (tx'.readRange 0 36) 36 s.cfg.txTimeout] } ∧
      tx'.readRange 0 36 = replyHeader s.idMajor s.idMinor h 0x00#8 ++ replyStatus 0x40#8 ∧
      ∀ a, 36 ≤ a → tx'.read a = 0x00#8) ∧
    (∃ tx', exec (.ataWriteRetry h sub data) s =
      .next { s.inTransaction (encode (.ataWriteRetry h sub data)) 0x00#8 0x30#8 sub.lba 0x00#8 with
        tx := tx', rspValid := true, rspLen := 36#18, rstate := .txWait, reqNo := s.reqNo + 1
        outputs := s.outputs ++ [.txReq (tx'.readRange 0 36) 36 s.cfg.txTimeout] } ∧
      tx'.readRange 0 36 = replyHeader s.idMajor s.idMinor h 0x00#8 ++ replyStatus 0x40#8 ∧
      ∀ a, 36 ≤ a → tx'.read a = 0x00#8)

/-- A Read or Write of more than `MAX_SECTORS` sectors is dropped as DROP_COUNT before any storage request (R113). -/
def Obligations.CountAboveTheLimitIsDropped : Prop :=
  ∀ (s : State) (h : Header) (sub : IssueSub) (data : List Byte),
    s.Ready → s.RequestOk h → s.Fits (encode (.ataReadRetry h sub data)) → s.Fits (encode (.ataWriteRetry h sub data)) →
    s.cfg.maxSectors < sub.sectorCount.toNat →
    (∃ tx', exec (.ataReadRetry h sub data) s =
      .next { s.inTransaction (encode (.ataReadRetry h sub data)) 0x00#8 0x20#8 sub.lba sub.sectorCount with
        tx := tx', outcome := .dropCount, rstate := .done } ∧
      tx'.readRange 0 24 = replyHeader s.idMajor s.idMinor h 0x00#8 ∧ ∀ a, 24 ≤ a → tx'.read a = 0x00#8) ∧
    (∃ tx', exec (.ataWriteRetry h sub data) s =
      .next { s.inTransaction (encode (.ataWriteRetry h sub data)) 0x00#8 0x30#8 sub.lba sub.sectorCount with
        tx := tx', outcome := .dropCount, rstate := .done } ∧
      tx'.readRange 0 24 = replyHeader s.idMajor s.idMinor h 0x00#8 ∧ ∀ a, 24 ≤ a → tx'.read a = 0x00#8)

/-- A Write whose frame is too short for its count is dropped as DROP_WRITE_SHORT before any storage write (R110). -/
def Obligations.WriteShorterThanItsCountIsDropped : Prop :=
  ∀ (s : State) (h : Header) (sub : IssueSub) (data : List Byte),
    s.Ready → s.RequestOk h → s.Fits (encode (.ataWriteRetry h sub data)) →
    sub.sectorCount.toNat ≤ s.cfg.maxSectors → data.length < 512 * sub.sectorCount.toNat →
    ∃ tx', exec (.ataWriteRetry h sub data) s =
      .next { s.inTransaction (encode (.ataWriteRetry h sub data)) 0x00#8 0x30#8 sub.lba sub.sectorCount with
        tx := tx', outcome := .dropWriteShort, rstate := .done } ∧
      tx'.readRange 0 24 = replyHeader s.idMajor s.idMinor h 0x00#8 ∧ ∀ a, 24 ≤ a → tx'.read a = 0x00#8

/-! ### The responder: the collaborators' answers -/

/-- A storage read that fails: its data lands in its window all the same, ERR is set, nothing is put out, and the index of
the sector is recorded (R109, R114). Every other byte of the buffer is unchanged. -/
def Obligations.FailedReadSendsNothing : Prop :=
  ∀ (s : State) (d : Sector) (rest : List Input),
    s.cfg.role = .responder → s.rstate = .sreadWait → s.tIdx.toNat < s.cfg.maxSectors →
    s.inputs = .readAnswer s.reqNo false d :: rest →
    ∃ tx' ps, step s = .next { s with
        inputs := rest, tx := tx', prints := ps, failIdx := s.tIdx, rspValid := false, outcome := .readFail
        rstate := .done } ∧
      tx'.readRange (36 + 512 * s.tIdx.toNat) 512 = d.toList ∧ tx'.read 27 = (s.tx.read 27 ||| 0x01#8) ∧
      ∀ a, a ≠ 27 → (a < 36 + 512 * s.tIdx.toNat ∨ 36 + 512 * s.tIdx.toNat + 512 ≤ a) → tx'.read a = s.tx.read a

/-- A storage read that succeeds with sectors left: the data lands in its window and the next sector is requested, at the
next LBA with no wrap-around (R108, R112, R114). -/
def Obligations.ReadGoesOnWithTheNextSector : Prop :=
  ∀ (s : State) (d : Sector) (rest : List Input),
    s.cfg.role = .responder → s.rstate = .sreadWait → s.tIdx.toNat + 1 < s.tCount.toNat →
    s.tCount.toNat ≤ s.cfg.maxSectors → s.inputs = .readAnswer s.reqNo true d :: rest →
    ∃ tx', step s = .next { s with
        inputs := rest, tx := tx', tIdx := s.tIdx + 1#9, reqNo := s.reqNo + 1
        outputs := s.outputs ++ [.sread (s.tLba.toNat + s.tIdx.toNat + 1)] } ∧
      tx'.readRange (36 + 512 * s.tIdx.toNat) 512 = d.toList ∧
      ∀ a, a < 36 + 512 * s.tIdx.toNat ∨ 36 + 512 * s.tIdx.toNat + 512 ≤ a → tx'.read a = s.tx.read a

/-- A storage write that fails: ERR is set, nothing more is put out, and the index of the sector is recorded; every other
byte of the buffer is unchanged (R111). -/
def Obligations.FailedWriteSendsNothing : Prop :=
  ∀ (s : State) (rest : List Input),
    s.cfg.role = .responder → s.rstate = .swriteWait → s.inputs = .writeAnswer s.reqNo false :: rest →
    ∃ tx' ps, step s = .next { s with
        inputs := rest, tx := tx', prints := ps, failIdx := s.tIdx, rspValid := false, outcome := .writeFail
        rstate := .done } ∧
      tx'.read 27 = (s.tx.read 27 ||| 0x01#8) ∧ ∀ a, a ≠ 27 → tx'.read a = s.tx.read a

/-- A storage write that succeeds with sectors left: the next sector is written from the next window of the held frame
(R111, R112). -/
def Obligations.WriteGoesOnWithTheNextSector : Prop :=
  ∀ (s : State) (rest : List Input),
    s.cfg.role = .responder → s.rstate = .swriteWait → s.tIdx.toNat + 1 < s.tCount.toNat →
    36 + 512 * s.tCount.toNat ≤ s.rx.length → s.inputs = .writeAnswer s.reqNo true :: rest →
    ∃ d : Sector, d.toList = (s.rx.drop (36 + 512 * s.tIdx.toNat + 512)).take 512 ∧
      step s = .next { s with
        inputs := rest, tIdx := s.tIdx + 1#9, reqNo := s.reqNo + 1
        outputs := s.outputs ++ [.swrite (s.tLba.toNat + s.tIdx.toNat + 1) d] }

/-- The answer to the response's transmit ends the transaction: OK_SENT or TX_FAIL, no retry, the buffer untouched until
the final clear (R118). -/
def Obligations.TransmitAnswerEndsTheTransaction : Prop :=
  ∀ (s : State) (ok : Bool) (rest : List Input),
    s.cfg.role = .responder → s.rstate = .txWait → s.inputs = .txAnswer s.reqNo ok :: rest →
    ∃ ps, step s = .next { s with
      inputs := rest, prints := ps, outcome := if ok then .okSent else .txFail, rstate := .done }

/-- From `R_DONE` the next step is the final clear, whatever stands at the ports unless `RESET` is the first of it: the
buffer is empty, the responder idle, the held frame released, and every other register keeps its value (R120, R155, R156).
Holding the frame is the model's (notes/assumptions/12.md), and so is going before a `RESET` that is not the first input
(notes/assumptions/13.md). -/
def Obligations.FinalClearReturnsToIdle : Prop :=
  ∀ s : State, s.cfg.role = .responder → s.rstate = .done → s.inputs.head? ≠ some .reset →
    step s = .next { s with tx := Memory.empty, rstate := .idle, rx := [] }

/-- The answer to the announce: the buffer is cleared and the responder is idle (R122). -/
def Obligations.AnnounceAnswerLeadsToIdle : Prop :=
  ∀ (s : State) (ok : Bool) (rest : List Input),
    s.cfg.role = .responder → s.rstate = .initTxWait → s.inputs = .txAnswer s.reqNo ok :: rest →
    step s = .next { s with
      inputs := rest, tx := Memory.empty, rstate := .idle, outcome := if ok then .announceSent else .announceTxFail }

/-! ### The responder: whole transactions -/

/-- A Read of n sectors whose storage reads all succeed: after the frame and n answers, the storage reads went out in
ascending order and the one transmit carries the header, DRDY and the n sectors in order (R107, R108, R112 to R114,
R118). -/
def Obligations.ReadSendsEverySectorInOrder : Prop :=
  ∀ (s : State) (h : Header) (sub : IssueSub) (data : List Byte) (ds : List Sector) (rest : List Input),
    s.Ready → s.RequestOk h → s.Fits (encode (.ataReadRetry h sub data)) →
    sub.sectorCount.toNat = ds.length → ds.length ≤ s.cfg.maxSectors →
    s.inputs = .frame (encode (.ataReadRetry h sub data)) :: (readAnswers (s.reqNo + 1) ds ++ rest) →
    ∃ t, Host.Core.run Sys2Proof.core (ds.length + 1) s = .next t ∧ t.rstate = .txWait ∧ t.inputs = rest ∧
      t.rspValid = true ∧ t.rspLen.toNat = 36 + 512 * ds.length ∧ t.reqNo = s.reqNo + ds.length + 1 ∧
      t.outputs = s.outputs ++ readRequests sub.lba.toNat ds.length ++
        [.txReq (replyHeader s.idMajor s.idMinor h 0x00#8 ++ replyStatus 0x40#8 ++ sectorBytesOf ds)
          (36 + 512 * ds.length) s.cfg.txTimeout]

/-- A Write of n sectors whose storage writes all succeed: after the frame and n answers, sector k of the frame's data
went to LBA + k in ascending order and the one transmit carries the 36-byte status reply (R110 to R112, R118). -/
def Obligations.WriteStoresEverySectorInOrder : Prop :=
  ∀ (s : State) (h : Header) (sub : IssueSub) (ds : List Sector) (extra : List Byte) (rest : List Input),
    s.Ready → s.RequestOk h → s.Fits (encode (.ataWriteRetry h sub (sectorBytesOf ds ++ extra))) →
    sub.sectorCount.toNat = ds.length → ds.length ≤ s.cfg.maxSectors →
    s.inputs = .frame (encode (.ataWriteRetry h sub (sectorBytesOf ds ++ extra))) ::
      (writeAnswers (s.reqNo + 1) ds.length ++ rest) →
    ∃ t, Host.Core.run Sys2Proof.core (ds.length + 1) s = .next t ∧ t.rstate = .txWait ∧ t.inputs = rest ∧
      t.rspValid = true ∧ t.rspLen.toNat = 36 ∧ t.reqNo = s.reqNo + ds.length + 1 ∧
      t.outputs = s.outputs ++ writeRequests sub.lba.toNat ds ++
        [.txReq (replyHeader s.idMajor s.idMinor h 0x00#8 ++ replyStatus 0x40#8) 36 s.cfg.txTimeout]

/-- A Read whose storage read of sector k fails, for any k below the count: exactly the reads of sectors 0 to k went out,
nothing is transmitted, and the composed response carries ERR (R109, R114, R157). -/
def Obligations.ReadFailureTransmitsNothing : Prop :=
  ∀ (s : State) (h : Header) (sub : IssueSub) (data : List Byte) (ds : List Sector) (bad : Sector) (rest : List Input),
    s.Ready → s.RequestOk h → s.Fits (encode (.ataReadRetry h sub data)) →
    ds.length < sub.sectorCount.toNat → sub.sectorCount.toNat ≤ s.cfg.maxSectors →
    s.inputs = .frame (encode (.ataReadRetry h sub data)) ::
      (readAnswers (s.reqNo + 1) ds ++ .readAnswer (s.reqNo + ds.length + 1) false bad :: rest) →
    ∃ t, Host.Core.run Sys2Proof.core (ds.length + 2) s = .next t ∧ t.rstate = .done ∧ t.inputs = rest ∧
      t.outcome = .readFail ∧ t.failIdx.toNat = ds.length ∧ t.rspValid = false ∧
      t.outputs = s.outputs ++ readRequests sub.lba.toNat (ds.length + 1) ∧
      t.tx.readRange 0 36 = replyHeader s.idMajor s.idMinor h 0x00#8 ++ replyStatus 0x01#8

/-! ### The initiator: the host's commands -/

/-- CONNECT in each state that accepts it: a fresh tag, and the 32-byte broadcast discovery request of R65 goes out
(R129 to R132). `cPrev` is the state before the send, which R131 names without a register (notes/assumptions/11.md). -/
def Obligations.ConnectBroadcastsADiscoveryRequest : Prop :=
  ∀ (s : State) (c : CState) (rest : List Input),
    s.InitiatorIn c → c = .disconnected ∨ c = .awaitQuery ∨ c = .connected → s.inputs = .host .connect :: rest →
    ∃ tx', step s = .next { s with
        inputs := rest, tx := tx', tag := s.tag + 1#32, opKind := .query, cPrev := c, cstate := .txWait
        reqNo := s.reqNo + 1
        outputs := s.outputs ++ [.txReq (tx'.readRange 0 32) 32 s.cfg.txTimeout] } ∧
      tx'.readRange 0 32 =
        requestHeader ⟨0xFF#8, 0xFF#8, 0xFF#8, 0xFF#8, 0xFF#8, 0xFF#8⟩ 0xFFFF#16 0xFF#8 0x01#8 (s.tag + 1#32)
          ++ List.replicate 8 0x00#8 ∧
      ∀ a, 32 ≤ a → tx'.read a = 0x00#8

/-- IDENTIFY in `C_CONNECTED`: a fresh tag, and the 36-byte Identify request of R65 goes to `DEST` (R129 to R131, R133). -/
def Obligations.IdentifyCommandSendsItsRequest : Prop :=
  ∀ (s : State) (rest : List Input), s.InitiatorIn .connected → s.inputs = .host .identify :: rest →
    ∃ tx', step s = .next { s with
        inputs := rest, tx := tx', tag := s.tag + 1#32, opKind := .identify, opCount := 0x00#8, cPrev := .connected
        cstate := .txWait, reqNo := s.reqNo + 1
        outputs := s.outputs ++ [.txReq (tx'.readRange 0 36) 36 s.cfg.txTimeout] } ∧
      tx'.readRange 0 36 =
        requestHeader s.dest s.idMajor s.idMinor 0x00#8 (s.tag + 1#32) ++ requestIssue 0x00#8 0x01#8 0xEC#8 0#24 ∧
      ∀ a, 36 ≤ a → tx'.read a = 0x00#8

/-- READ in `C_CONNECTED` with arguments R136 allows: a fresh tag, and the 36-byte Read request of R65 goes to `DEST`
(R129 to R131, R134, R136). -/
def Obligations.ReadCommandSendsItsRequest : Prop :=
  ∀ (s : State) (sector count : Nat) (rest : List Input),
    s.InitiatorIn .connected → 1 ≤ count → count ≤ s.cfg.maxSectors → sector ≤ 2 ^ 24 - 1 →
    s.inputs = .host (.read sector count) :: rest →
    ∃ tx', step s = .next { s with
        inputs := rest, tx := tx', tag := s.tag + 1#32, opKind := .read, opCount := BitVec.ofNat 8 count
        cPrev := .connected, cstate := .txWait, reqNo := s.reqNo + 1
        outputs := s.outputs ++ [.txReq (tx'.readRange 0 36) 36 s.cfg.txTimeout] } ∧
      tx'.readRange 0 36 = requestHeader s.dest s.idMajor s.idMinor 0x00#8 (s.tag + 1#32)
        ++ requestIssue 0x00#8 (BitVec.ofNat 8 count) 0x20#8 (BitVec.ofNat 24 sector) ∧
      ∀ a, 36 ≤ a → tx'.read a = 0x00#8

/-- WRITE in `C_CONNECTED` with arguments R136 allows: a fresh tag, and the Write request of R65 goes to `DEST`, with the
W bit and every sector of the host's data in its window (R129 to R131, R135, R136). -/
def Obligations.WriteCommandSendsItsRequest : Prop :=
  ∀ (s : State) (sector count : Nat) (wdata : List Byte) (rest : List Input),
    s.InitiatorIn .connected → 1 ≤ count → count ≤ s.cfg.maxSectors → sector ≤ 2 ^ 24 - 1 →
    wdata.length = 512 * count → s.inputs = .host (.write sector count wdata) :: rest →
    ∃ tx', step s = .next { s with
        inputs := rest, tx := tx', tag := s.tag + 1#32, opKind := .write, opCount := BitVec.ofNat 8 count
        cPrev := .connected, cstate := .txWait, reqNo := s.reqNo + 1
        outputs := s.outputs ++
          [.txReq (tx'.readRange 0 (36 + 512 * count)) (36 + 512 * count) s.cfg.txTimeout] } ∧
      tx'.readRange 0 (36 + 512 * count) = requestHeader s.dest s.idMajor s.idMinor 0x00#8 (s.tag + 1#32)
        ++ requestIssue 0x01#8 (BitVec.ofNat 8 count) 0x30#8 (BitVec.ofNat 24 sector) ++ wdata ∧
      ∀ a, 36 + 512 * count ≤ a → tx'.read a = 0x00#8

/-- An operation before discovery completes is refused at once: `C_RESULT` 0, C_NOT_CONNECTED, no data, no frame, the tag
unchanged, whatever its arguments (R128, R154). -/
def Obligations.OperationBeforeDiscoveryIsRefused : Prop :=
  ∀ (s : State) (cmd : HostCmd) (rest : List Input),
    s.cfg.role = .initiator → s.cstate = .disconnected ∨ s.cstate = .awaitQuery → cmd ≠ .connect →
    s.inputs = .host cmd :: rest →
    step s = .next { s with
      inputs := rest, cResult := false, cOutcome := .notConnected, rdata := []
      outputs := s.outputs ++ [.done false .notConnected []] }

/-- READ and WRITE with arguments R136 refuses complete at once with C_BAD_ARGS: nothing is composed, and the tag is
unchanged (R134 to R136, R146). -/
def Obligations.BadArgumentsAreRefused : Prop :=
  ∀ (s : State) (cmd : HostCmd) (sector count : Nat) (wdata : List Byte) (rest : List Input),
    s.cfg.role = .initiator → s.cstate = .connected → s.inputs = .host cmd :: rest →
    (cmd = .read sector count ∧ ¬ (1 ≤ count ∧ count ≤ s.cfg.maxSectors ∧ sector ≤ 2 ^ 24 - 1)) ∨
      (cmd = .write sector count wdata ∧
        ¬ (1 ≤ count ∧ count ≤ s.cfg.maxSectors ∧ sector ≤ 2 ^ 24 - 1 ∧ wdata.length = 512 * count)) →
    step s = .next { s with
      inputs := rest, cResult := false, cOutcome := .badArgs, rdata := [], opKind := .none, strayCnt := 0
      outputs := s.outputs ++ [.done false .badArgs []] }

/-- The transmit answer of a CONNECT: the buffer is cleared and the command completes with its result code; sent, the
initiator awaits the query response; failed, it falls back to `C_CONNECTED` or `C_DISCONNECTED` (R131, R132). -/
def Obligations.ConnectCompletesOnItsTransmitAnswer : Prop :=
  ∀ (s : State) (ok : Bool) (rest : List Input),
    s.cfg.role = .initiator → s.cstate = .txWait → s.opKind = .query → s.inputs = .txAnswer s.reqNo ok :: rest →
    step s = .next (if ok then
      { s with
        inputs := rest, tx := Memory.empty, cstate := .awaitQuery, strayCnt := 0, cCode := 0x00#8, cResult := true
        cOutcome := .ok, outputs := s.outputs ++ [.done true .ok []] }
    else
      { s with
        inputs := rest, tx := Memory.empty, opKind := .none, cCode := 0x01#8, cResult := false
        cstate := if s.cPrev = .connected then .connected else .disconnected
        cOutcome := .txFail, outputs := s.outputs ++ [.done false .txFail []] })

/-- The transmit answer of an operation: the buffer is cleared; sent, the initiator awaits the response; failed, the
operation completes with C_TX_FAIL in `C_CONNECTED` (R131, R133 to R135, R146). -/
def Obligations.OperationGoesOnAfterItsTransmitAnswer : Prop :=
  ∀ (s : State) (ok : Bool) (rest : List Input),
    s.cfg.role = .initiator → s.cstate = .txWait → s.opKind = .identify ∨ s.opKind = .read ∨ s.opKind = .write →
    s.inputs = .txAnswer s.reqNo ok :: rest →
    step s = .next (if ok then
      { s with inputs := rest, tx := Memory.empty, cstate := .awaitOp, strayCnt := 0 }
    else
      { s with
        inputs := rest, tx := Memory.empty, cstate := .connected, opKind := .none, strayCnt := 0, cResult := false
        cOutcome := .txFail, rdata := [], outputs := s.outputs ++ [.done false .txFail []] })

/-! ### The initiator: responses, strays and timeouts -/

/-- QUERY_RESPONSE matching an outstanding discovery: a successful one binds `DEST` from its Ethernet source, any other
ends the wait as rejected; no `DONE` is put out (R137 to R139). -/
def Obligations.QueryResponseBindsTheResponder : Prop :=
  ∀ (s : State) (h : Header) (q : QueryTail),
    s.cfg.role = .initiator → s.cstate = .awaitQuery → s.opKind = .query → s.Fits (encode (.queryResponse h q)) →
    s.ResponseMatches h →
    exec (.queryResponse h q) s = .next (if h.flagError = false ∧ h.error = 0x00#8 then
      { s with dest := h.src, cstate := .connected, opKind := .none, cOutcome := .bound }
    else { s with cstate := .disconnected, opKind := .none, cOutcome := .rejected })

/-- ATA_RESPONSE matching an outstanding IDENTIFY: long enough and successful, its capacity is decoded from bytes 236 to
243 of the frame and the command completes with true; any other completes with false (R140, R143, R146). -/
def Obligations.IdentifyResponseBindsTheCapacity : Prop :=
  ∀ (s : State) (h : Header) (status : Byte) (sub : IssueSub) (data : List Byte),
    s.cfg.role = .initiator → s.cstate = .awaitOp → s.opKind = .identify → s.ResponseMatches h →
    s.Fits (encode (.ataResponse h (.full status sub data))) →
    exec (.ataResponse h (.full status sub data)) s = .next
      (if 512 ≤ data.length ∧ h.flagError = false ∧ h.error = 0x00#8 ∧ status.getLsbD 0 = false ∧ status.getLsbD 6 = true
      then
        { s with
          cSectors := le64 (data.getD 200 0#8) (data.getD 201 0#8) (data.getD 202 0#8) (data.getD 203 0#8)
            (data.getD 204 0#8) (data.getD 205 0#8) (data.getD 206 0#8) (data.getD 207 0#8)
          cResult := true, cOutcome := .ok, rdata := [], opKind := .none, strayCnt := 0, cstate := .connected
          outputs := s.outputs ++ [.done true .ok []] }
      else
        { s with
          cResult := false, cOutcome := .rejected, rdata := [], opKind := .none, strayCnt := 0, cstate := .connected
          outputs := s.outputs ++ [.done false .rejected []] })

/-- ATA_RESPONSE matching an outstanding READ: long enough and successful, the first 512 * `OP_COUNT` data bytes are
delivered to the host; any other completes with false (R141, R143, R146). -/
def Obligations.ReadResponseDeliversTheData : Prop :=
  ∀ (s : State) (h : Header) (status : Byte) (sub : IssueSub) (data : List Byte),
    s.cfg.role = .initiator → s.cstate = .awaitOp → s.opKind = .read → s.ResponseMatches h →
    s.Fits (encode (.ataResponse h (.full status sub data))) →
    exec (.ataResponse h (.full status sub data)) s = .next
      (if 512 * s.opCount.toNat ≤ data.length ∧ h.flagError = false ∧ h.error = 0x00#8 ∧ status.getLsbD 0 = false ∧
          status.getLsbD 6 = true
      then
        { s with
          cResult := true, cOutcome := .ok, rdata := data.take (512 * s.opCount.toNat), opKind := .none, strayCnt := 0
          cstate := .connected, outputs := s.outputs ++ [.done true .ok (data.take (512 * s.opCount.toNat))] }
      else
        { s with
          cResult := false, cOutcome := .rejected, rdata := [], opKind := .none, strayCnt := 0, cstate := .connected
          outputs := s.outputs ++ [.done false .rejected []] })

/-- ATA_RESPONSE matching an outstanding WRITE: a successful status completes with true, any other with false (R142, R143,
R146). -/
def Obligations.WriteResponseCompletesTheWrite : Prop :=
  ∀ (s : State) (h : Header) (status : Byte) (sub : IssueSub) (data : List Byte),
    s.cfg.role = .initiator → s.cstate = .awaitOp → s.opKind = .write → s.ResponseMatches h →
    s.Fits (encode (.ataResponse h (.full status sub data))) →
    exec (.ataResponse h (.full status sub data)) s = .next
      (if h.flagError = false ∧ h.error = 0x00#8 ∧ status.getLsbD 0 = false ∧ status.getLsbD 6 = true then
        { s with
          cResult := true, cOutcome := .ok, rdata := [], opKind := .none, strayCnt := 0, cstate := .connected
          outputs := s.outputs ++ [.done true .ok []] }
      else
        { s with
          cResult := false, cOutcome := .rejected, rdata := [], opKind := .none, strayCnt := 0, cstate := .connected
          outputs := s.outputs ++ [.done false .rejected []] })

/-- ATA_RESPONSE matching an outstanding operation but shorter than the Issue sub-header is rejected, whatever the
operation (R140 to R143). -/
def Obligations.TruncatedAtaResponseIsRejected : Prop :=
  ∀ (s : State) (h : Header) (bytes : List Byte),
    s.cfg.role = .initiator → s.cstate = .awaitOp → s.opKind = .identify ∨ s.opKind = .read ∨ s.opKind = .write →
    s.ResponseMatches h → bytes.length < 12 → s.Fits (encode (.ataResponse h (.short bytes))) →
    exec (.ataResponse h (.short bytes)) s = .next { s with
      cResult := false, cOutcome := .rejected, rdata := [], opKind := .none, strayCnt := 0, cstate := .connected
      outputs := s.outputs ++ [.done false .rejected []] }

/-- A frame that does not match the outstanding request, over its raw bytes: discarded while a query waits; while an
operation waits, counted as a stray, until the stray after the limit ends the wait (R138, R144). -/
def Obligations.UnmatchedFrameIsAStray : Prop :=
  ∀ (s : State) (rx : List Byte) (rest : List Input),
    s.cfg.role = .initiator → s.cstate = .awaitQuery ∨ s.cstate = .awaitOp → s.Fits rx →
    s.inputs = .frame rx :: rest → matchesRaw s.opKind s.tag rx = false →
    step s = .next (if s.cstate = .awaitQuery then { s with inputs := rest }
      else if ∃ limit, s.cfg.clientMaxStray = some limit ∧ limit ≤ s.strayCnt then
        { s with
          inputs := rest, cResult := false, cOutcome := .strayLimit, rdata := [], opKind := .none, strayCnt := 0
          cstate := .connected, outputs := s.outputs ++ [.done false .strayLimit []] }
      else { s with inputs := rest, strayCnt := s.strayCnt + 1 })

/-- A frame that matches the outstanding request, over its raw bytes, ends the wait in that step, successful or not
(R137, R143). -/
def Obligations.MatchedFrameEndsTheWait : Prop :=
  ∀ (s : State) (rx : List Byte) (rest : List Input),
    s.Inv → s.cfg.role = .initiator → s.cstate = .awaitQuery ∨ s.cstate = .awaitOp → s.Fits rx →
    s.inputs = .frame rx :: rest → matchesRaw s.opKind s.tag rx = true →
    ∃ t, step s = .next t ∧ t.inputs = rest ∧ t.opKind = .none ∧ t.tag = s.tag ∧ t.tx = s.tx ∧
      (s.cstate = .awaitOp → t.cstate = .connected ∧ (t.cOutcome = .ok ∨ t.cOutcome = .rejected) ∧
        (t.cResult = true ↔ t.cOutcome = .ok)) ∧
      (s.cstate = .awaitQuery → t.outputs = s.outputs ∧
        ((t.cstate = .connected ∧ t.cOutcome = .bound) ∨ (t.cstate = .disconnected ∧ t.cOutcome = .rejected)))

/-- A frame reaching an initiator that waits for no response is taken and discarded: nothing changes (R127, R137). -/
def Obligations.FrameOutsideAWaitIsDiscarded : Prop :=
  ∀ (s : State) (rx : List Byte) (rest : List Input),
    s.cfg.role = .initiator → s.cstate = .disconnected ∨ s.cstate = .connected → s.Fits rx →
    s.inputs = .frame rx :: rest → step s = .next { s with inputs := rest }

/-- `TIMEOUT` ends an operation's wait with C_TIMEOUT, ends a query's wait without a `DONE`, and is discarded in every
other state (R145). -/
def Obligations.TimeoutEndsTheWait : Prop :=
  ∀ (s : State) (rest : List Input), s.cfg.role = .initiator → s.inputs = .timeout :: rest →
    step s = .next (match s.cstate with
      | .awaitOp =>
        { s with
          inputs := rest, cResult := false, cOutcome := .timeout, rdata := [], opKind := .none, strayCnt := 0
          cstate := .connected, outputs := s.outputs ++ [.done false .timeout []] }
      | .awaitQuery => { s with inputs := rest, cstate := .disconnected, opKind := .none, cOutcome := .timeout }
      | .disconnected => { s with inputs := rest }
      | .connected => { s with inputs := rest }
      | .txWait => { s with inputs := rest })

/-! ### The two roles together -/

/-- A READ of n sectors through a responder whose storage reads succeed delivers exactly the bytes the storage returned
(R147, with R134, R107, R108, R118, R138 and R141): the initiator's request `f`, the responder's reply `g`, and the
initiator's completion. The frames are carried unchanged. -/
def Obligations.ReadRoundTripDeliversTheStoredBytes : Prop :=
  ∀ (i r : State) (sector : Nat) (ds : List Sector),
    i.InitiatorIn .connected → i.dest = ⟨0#8, 0#8, 0#8, 0#8, 0#8, 0#8⟩ → r.Ready →
    i.idMajor = r.idMajor → i.idMinor = r.idMinor →
    1 ≤ ds.length → ds.length ≤ i.cfg.maxSectors → ds.length ≤ r.cfg.maxSectors → sector ≤ 2 ^ 24 - 1 →
    36 ≤ r.cfg.rxMaxBytes → 36 + 512 * ds.length ≤ i.cfg.rxMaxBytes →
    ∃ (i₁ i₂ r₁ : State) (f g : List Byte),
      Host.Core.run Sys2Proof.core 2
        { i with inputs := [.host (.read sector ds.length), .txAnswer (i.reqNo + 1) true] } = .next i₁ ∧
      i₁.outputs = i.outputs ++ [.txReq f 36 i.cfg.txTimeout] ∧
      Host.Core.run Sys2Proof.core (ds.length + 1)
        { r with inputs := .frame f :: readAnswers (r.reqNo + 1) ds } = .next r₁ ∧
      r₁.outputs = r.outputs ++ readRequests sector ds.length ++ [.txReq g (36 + 512 * ds.length) r.cfg.txTimeout] ∧
      step { i₁ with inputs := [.frame g] } = .next i₂ ∧
      i₂.rdata = sectorBytesOf ds ∧ i₂.cResult = true ∧ i₂.cOutcome = .ok ∧ i₂.cstate = .connected ∧
      i₂.outputs = i.outputs ++ [.txReq f 36 i.cfg.txTimeout, .done true .ok (sectorBytesOf ds)]

/-- A WRITE of n sectors through a responder whose storage writes succeed stores exactly the host's sectors, in order, at
the addressed LBAs, and completes with true (R147, with R135, R110, R111, R118, R138 and R142). -/
def Obligations.WriteRoundTripStoresTheHostsBytes : Prop :=
  ∀ (i r : State) (sector : Nat) (ds : List Sector),
    i.InitiatorIn .connected → i.dest = ⟨0#8, 0#8, 0#8, 0#8, 0#8, 0#8⟩ → r.Ready →
    i.idMajor = r.idMajor → i.idMinor = r.idMinor →
    1 ≤ ds.length → ds.length ≤ i.cfg.maxSectors → ds.length ≤ r.cfg.maxSectors → sector ≤ 2 ^ 24 - 1 →
    36 + 512 * ds.length ≤ r.cfg.rxMaxBytes → 36 ≤ i.cfg.rxMaxBytes →
    ∃ (i₁ i₂ r₁ : State) (f g : List Byte),
      Host.Core.run Sys2Proof.core 2
        { i with inputs := [.host (.write sector ds.length (sectorBytesOf ds)), .txAnswer (i.reqNo + 1) true] }
        = .next i₁ ∧
      i₁.outputs = i.outputs ++ [.txReq f (36 + 512 * ds.length) i.cfg.txTimeout] ∧
      Host.Core.run Sys2Proof.core (ds.length + 1)
        { r with inputs := .frame f :: writeAnswers (r.reqNo + 1) ds.length } = .next r₁ ∧
      r₁.outputs = r.outputs ++ writeRequests sector ds ++ [.txReq g 36 r.cfg.txTimeout] ∧
      step { i₁ with inputs := [.frame g] } = .next i₂ ∧
      i₂.cResult = true ∧ i₂.cOutcome = .ok ∧ i₂.cstate = .connected ∧
      i₂.outputs = i.outputs ++ [.txReq f (36 + 512 * ds.length) i.cfg.txTimeout, .done true .ok []]
end

