-- ==== Sys2Proof/Laws/Bits.lean ====
section
/-! SUPPORT. The laws of the byte orders and the bit fields: reading back what was written, both ways round. -/

namespace Sys2Proof

/-- Bit `i` of byte `k`. -/
theorem getLsbD_byteOf {w : Nat} (v : BitVec w) (k i : Nat) (h : i < 8) : (byteOf v k).getLsbD i = v.getLsbD (8 * k + i) := by
  simp [byteOf, h]

@[simp] theorem be16_byteOf (v : BitVec 16) : be16 (byteOf v 1) (byteOf v 0) = v := by
  apply BitVec.eq_of_getLsbD_eq
  intro i hi
  simp only [be16, BitVec.getLsbD_append]
  split
  · rw [getLsbD_byteOf _ _ _ (by omega)]; congr 1; omega
  · rw [getLsbD_byteOf _ _ _ (by omega)]; congr 1; omega

@[simp] theorem byteOf_one_be16 (a b : Byte) : byteOf (be16 a b) 1 = a := by
  apply BitVec.eq_of_getLsbD_eq
  intro i hi
  rw [getLsbD_byteOf _ _ _ hi, be16, BitVec.getLsbD_append, if_neg (by omega)]
  congr 1; omega

@[simp] theorem byteOf_zero_be16 (a b : Byte) : byteOf (be16 a b) 0 = b := by
  apply BitVec.eq_of_getLsbD_eq
  intro i hi
  rw [getLsbD_byteOf _ _ _ hi, be16, BitVec.getLsbD_append, if_pos (by omega)]
  congr 1; omega

@[simp] theorem be32_byteOf (v : BitVec 32) : be32 (byteOf v 3) (byteOf v 2) (byteOf v 1) (byteOf v 0) = v := by
  apply BitVec.eq_of_getLsbD_eq
  intro i hi
  simp only [be32, BitVec.getLsbD_append]
  split
  · rw [getLsbD_byteOf _ _ _ (by omega)]; congr 1; omega
  · split
    · rw [getLsbD_byteOf _ _ _ (by omega)]; congr 1; omega
    · split
      · rw [getLsbD_byteOf _ _ _ (by omega)]; congr 1; omega
      · rw [getLsbD_byteOf _ _ _ (by omega)]; congr 1; omega

theorem byteOf_be32 (a b c d : Byte) :
    byteOf (be32 a b c d) 3 = a ∧ byteOf (be32 a b c d) 2 = b ∧ byteOf (be32 a b c d) 1 = c
      ∧ byteOf (be32 a b c d) 0 = d := by
  refine ⟨?_, ?_, ?_, ?_⟩ <;>
    (apply BitVec.eq_of_getLsbD_eq
     intro i hi
     rw [getLsbD_byteOf _ _ _ hi]
     simp only [be32, BitVec.getLsbD_append]
     repeat (first | rw [if_pos (by omega)] | rw [if_neg (by omega)])
     congr 1; omega)

@[simp] theorem be32Bytes_be32 (a b c d : Byte) : be32Bytes (be32 a b c d) = [a, b, c, d] := by
  obtain ⟨h3, h2, h1, h0⟩ := byteOf_be32 a b c d
  simp [be32Bytes, h3, h2, h1, h0]

@[simp] theorem le24_byteOf (v : BitVec 24) : le24 (byteOf v 0) (byteOf v 1) (byteOf v 2) = v := by
  apply BitVec.eq_of_getLsbD_eq
  intro i hi
  simp only [le24, BitVec.getLsbD_append]
  split
  · rw [getLsbD_byteOf _ _ _ (by omega)]; congr 1; omega
  · split
    · rw [getLsbD_byteOf _ _ _ (by omega)]; congr 1; omega
    · rw [getLsbD_byteOf _ _ _ (by omega)]; congr 1; omega

theorem byteOf_le24 (a b c : Byte) :
    byteOf (le24 a b c) 0 = a ∧ byteOf (le24 a b c) 1 = b ∧ byteOf (le24 a b c) 2 = c := by
  refine ⟨?_, ?_, ?_⟩ <;>
    (apply BitVec.eq_of_getLsbD_eq
     intro i hi
     rw [getLsbD_byteOf _ _ _ hi]
     simp only [le24, BitVec.getLsbD_append]
     repeat (first | rw [if_pos (by omega)] | rw [if_neg (by omega)])
     congr 1; omega)

@[simp] theorem le24Bytes_le24 (a b c : Byte) : le24Bytes (le24 a b c) = [a, b, c] := by
  obtain ⟨h0, h1, h2⟩ := byteOf_le24 a b c
  simp [le24Bytes, h0, h1, h2]

@[simp] theorem le64_byteOf (v : BitVec 64) :
    le64 (byteOf v 0) (byteOf v 1) (byteOf v 2) (byteOf v 3) (byteOf v 4) (byteOf v 5) (byteOf v 6) (byteOf v 7) = v := by
  apply BitVec.eq_of_getLsbD_eq
  intro i hi
  simp only [le64, BitVec.getLsbD_append]
  repeat' split
  all_goals (rw [getLsbD_byteOf _ _ _ (by omega)]; congr 1; omega)

theorem byteOf_le64 (a b c d e f g h : Byte) :
    byteOf (le64 a b c d e f g h) 0 = a ∧ byteOf (le64 a b c d e f g h) 1 = b ∧ byteOf (le64 a b c d e f g h) 2 = c
      ∧ byteOf (le64 a b c d e f g h) 3 = d ∧ byteOf (le64 a b c d e f g h) 4 = e ∧ byteOf (le64 a b c d e f g h) 5 = f
      ∧ byteOf (le64 a b c d e f g h) 6 = g ∧ byteOf (le64 a b c d e f g h) 7 = h := by
  refine ⟨?_, ?_, ?_, ?_, ?_, ?_, ?_, ?_⟩ <;>
    (apply BitVec.eq_of_getLsbD_eq
     intro i hi
     rw [getLsbD_byteOf _ _ _ hi]
     simp only [le64, BitVec.getLsbD_append]
     repeat (first | rw [if_pos (by omega)] | rw [if_neg (by omega)])
     congr 1; omega)

@[simp] theorem le64Bytes_le64 (a b c d e f g h : Byte) : le64Bytes (le64 a b c d e f g h) = [a, b, c, d, e, f, g, h] := by
  obtain ⟨h0, h1, h2, h3, h4, h5, h6, h7⟩ := byteOf_le64 a b c d e f g h
  simp [le64Bytes, h0, h1, h2, h3, h4, h5, h6, h7]

@[simp] theorem be16Bytes_be16 (a b : Byte) : be16Bytes (be16 a b) = [a, b] := by simp [be16Bytes]

@[simp] theorem verOf_byte14 (v : BitVec 4) (r e : Bool) (x : BitVec 2) : verOf (byte14 v r e x) = v := by
  revert v r e x; decide
@[simp] theorem flagResponseOf_byte14 (v : BitVec 4) (r e : Bool) (x : BitVec 2) : flagResponseOf (byte14 v r e x) = r := by
  revert v r e x; decide
@[simp] theorem flagErrorOf_byte14 (v : BitVec 4) (r e : Bool) (x : BitVec 2) : flagErrorOf (byte14 v r e x) = e := by
  revert v r e x; decide
@[simp] theorem flagsRsvdOf_byte14 (v : BitVec 4) (r e : Bool) (x : BitVec 2) : flagsRsvdOf (byte14 v r e x) = x := by
  revert v r e x; decide
@[simp] theorem byte14_of (b : Byte) : byte14 (verOf b) (flagResponseOf b) (flagErrorOf b) (flagsRsvdOf b) = b := by
  revert b; decide
@[simp] theorem aoeVerOf_byte29 (v c : BitVec 4) : aoeVerOf (byte29 v c) = v := by revert v c; decide
@[simp] theorem ccmdOf_byte29 (v c : BitVec 4) : ccmdOf (byte29 v c) = c := by revert v c; decide
@[simp] theorem byte29_of (b : Byte) : byte29 (aoeVerOf b) (ccmdOf b) = b := by revert b; decide

/-! ### The read-modify-write setters: the field, then the byte's other bits -/

@[simp] theorem verOf_withVer (b : Byte) (v : BitVec 4) : verOf (withVer b v) = v := by
  apply BitVec.eq_of_getLsbD_eq
  intro i hi
  simp only [verOf, withVer, BitVec.getLsbD_extractLsb', BitVec.getLsbD_append]
  rw [if_neg (by omega)]
  simp [hi]
theorem getLsbD_withVer_low (b : Byte) (v : BitVec 4) (i : Nat) (h : i < 4) :
    (withVer b v).getLsbD i = b.getLsbD i := by
  rw [withVer, BitVec.getLsbD_append, if_pos h]
  simp [h]
@[simp] theorem aoeVerOf_withAoeVer (b : Byte) (v : BitVec 4) : aoeVerOf (withAoeVer b v) = v := verOf_withVer b v
theorem getLsbD_withAoeVer_low (b : Byte) (v : BitVec 4) (i : Nat) (h : i < 4) :
    (withAoeVer b v).getLsbD i = b.getLsbD i := getLsbD_withVer_low b v i h
@[simp] theorem ccmdOf_withAoeVer (b : Byte) (v : BitVec 4) : ccmdOf (withAoeVer b v) = ccmdOf b := by
  apply BitVec.eq_of_getLsbD_eq
  intro i hi
  rw [ccmdOf, BitVec.getLsbD_extractLsb', withAoeVer, BitVec.getLsbD_append, if_pos (by omega)]
  simp [ccmdOf, hi]
@[simp] theorem ccmdOf_withCcmd (b : Byte) (v : BitVec 4) : ccmdOf (withCcmd b v) = v := by
  apply BitVec.eq_of_getLsbD_eq
  intro i hi
  rw [ccmdOf, BitVec.getLsbD_extractLsb', withCcmd, BitVec.getLsbD_append, if_pos (by omega)]
  simp [hi]
@[simp] theorem aoeVerOf_withCcmd (b : Byte) (v : BitVec 4) : aoeVerOf (withCcmd b v) = aoeVerOf b := by
  apply BitVec.eq_of_getLsbD_eq
  intro i hi
  simp only [aoeVerOf, withCcmd, BitVec.getLsbD_extractLsb', BitVec.getLsbD_append]
  rw [if_neg (by omega)]
  simp [hi]

theorem getLsbD_withCcmd_high (b : Byte) (v : BitVec 4) (i : Nat) (h : 4 ≤ i) (h' : i < 8) :
    (withCcmd b v).getLsbD i = b.getLsbD i := by
  rw [withCcmd, BitVec.getLsbD_append, if_neg (by omega), BitVec.getLsbD_extractLsb']
  simp [show i - 4 < 4 by omega, show 4 + (i - 4) = i by omega]

/-- Replacing bit `k` sets it and keeps every other bit. -/
theorem getLsbD_setBit (b : Byte) (k : Nat) (v : Bool) (i : Nat) (hi : i < 8) :
    (setBit b k v).getLsbD i = if i = k then v else b.getLsbD i := by
  unfold setBit
  have h1 : (1#8 <<< k).getLsbD i = decide (i = k) := by
    rw [BitVec.getLsbD_shiftLeft, BitVec.getLsbD_one]
    by_cases h : i = k
    · subst h; simp [hi]
    · simp only [h, decide_false]
      by_cases h' : i < k
      · simp [h']
      · simp; omega
  cases v
  · simp only [Bool.false_eq_true, if_false, BitVec.getLsbD_and, BitVec.getLsbD_not, h1]
    by_cases h : i = k <;> simp [h, hi]
  · simp only [if_true, BitVec.getLsbD_or, h1]
    by_cases h : i = k <;> simp [h]

@[simp] theorem flagResponseOf_withFlagResponse (b : Byte) (v : Bool) : flagResponseOf (withFlagResponse b v) = v := by
  rw [flagResponseOf, withFlagResponse, getLsbD_setBit _ _ _ _ (by decide), if_pos rfl]
@[simp] theorem flagErrorOf_withFlagError (b : Byte) (v : Bool) : flagErrorOf (withFlagError b v) = v := by
  rw [flagErrorOf, withFlagError, getLsbD_setBit _ _ _ _ (by decide), if_pos rfl]
@[simp] theorem deviceReadyOf_withDeviceReady (b : Byte) (v : Bool) : deviceReadyOf (withDeviceReady b v) = v := by
  rw [deviceReadyOf, withDeviceReady, getLsbD_setBit _ _ _ _ (by decide), if_pos rfl]
@[simp] theorem statusErrorOf_withStatusError (b : Byte) (v : Bool) : statusErrorOf (withStatusError b v) = v := by
  rw [statusErrorOf, withStatusError, getLsbD_setBit _ _ _ _ (by decide), if_pos rfl]

end Sys2Proof
end

