-- ==== Sys2Proof/Laws/Memory.lean ====
section
/-! SUPPORT. The laws of the transmit buffer's bytes: what a byte reads as after a write and after a clear, and that every
operation keeps the canonical form. Cite these; do not unfold `Memory.write`. -/

namespace Sys2Proof.Machine

open Sys2Proof

@[simp] theorem Memory.read_nil (a : Nat) : Memory.read [] a = unlistedByte := rfl

@[simp] theorem Memory.read_empty (a : Nat) : Memory.empty.read a = unlistedByte := rfl

theorem Memory.read_cons (c : Host.Cell) (m : Memory) (a : Nat) :
    Memory.read (c :: m) a = if c.1 = a then c.2 else Memory.read m a := rfl

/-- A byte whose address is not listed. -/
theorem Memory.read_unlisted {m : Memory} {a : Nat} (h : ∀ c ∈ m, c.1 ≠ a) : Memory.read m a = unlistedByte := by
  induction m with
  | nil => rfl
  | cons c m ih =>
    rw [Memory.read_cons, if_neg (h c (by simp)), ih fun d hd => h d (by simp [hd])]

/-- Reading past cells that do not hold the address. -/
theorem Memory.read_append_of_unlisted {m n : Memory} {a : Nat} (h : ∀ c ∈ m, c.1 ≠ a) :
    Memory.read (m ++ n) a = Memory.read n a := by
  induction m with
  | nil => rfl
  | cons c m ih =>
    rw [List.cons_append, Memory.read_cons, if_neg (h c (by simp)), ih fun d hd => h d (by simp [hd])]

/-- Reading before cells that do not hold the address. -/
theorem Memory.read_append_left {m n : Memory} {a : Nat} (h : ∀ c ∈ n, c.1 ≠ a) :
    Memory.read (m ++ n) a = Memory.read m a := by
  induction m with
  | nil => simpa using Memory.read_unlisted h
  | cons c m ih => rw [List.cons_append, Memory.read_cons, Memory.read_cons, ih]

/-- A filter that keeps every cell of an address does not change its byte. -/
theorem Memory.read_filter {m : Memory} {a : Nat} {p : Host.Cell → Bool} (h : ∀ c ∈ m, c.1 = a → p c = true) :
    Memory.read (m.filter p) a = Memory.read m a := by
  induction m with
  | nil => rfl
  | cons c m ih =>
    have ih := ih fun d hd => h d (by simp [hd])
    by_cases hc : c.1 = a
    · rw [List.filter_cons_of_pos (h c (by simp) hc), Memory.read_cons, Memory.read_cons, if_pos hc, if_pos hc]
    · rw [Memory.read_cons, if_neg hc, ← ih]
      by_cases hp : p c = true
      · rw [List.filter_cons_of_pos hp, Memory.read_cons, if_neg hc]
      · rw [List.filter_cons_of_neg hp]

/-- The addresses of the cells of a byte sequence. -/
theorem Memory.mem_cells {a : Nat} {bs : List Byte} {c : Host.Cell} (h : c ∈ Memory.cells a bs) :
    a ≤ c.1 ∧ c.1 < a + bs.length ∧ c.2 ≠ unlistedByte := by
  induction bs generalizing a with
  | nil => simp [Memory.cells] at h
  | cons b bs ih =>
    rw [Memory.cells] at h
    split at h
    · have := ih h
      simp only [List.length_cons]; exact ⟨by omega, by omega, this.2.2⟩
    · rcases List.mem_cons.mp h with rfl | h
      · simp only [List.length_cons]; exact ⟨by omega, by omega, by assumption⟩
      · have := ih h
        simp only [List.length_cons]; exact ⟨by omega, by omega, this.2.2⟩

theorem Memory.read_cells (a : Nat) (bs : List Byte) (k : Nat) :
    Memory.read (Memory.cells a bs) (a + k) = bs.getD k unlistedByte := by
  induction bs generalizing a k with
  | nil => simp [Memory.cells]
  | cons b bs ih =>
    rw [Memory.cells]
    cases k with
    | zero =>
      split
      · rename_i hb
        rw [Memory.read_unlisted fun c hc => by have := (Memory.mem_cells hc).1; omega]
        simp [hb]
      · simp [Memory.read_cons]
    | succ k =>
      have h := ih (a + 1) k
      rw [show a + 1 + k = a + (k + 1) by omega] at h
      split
      · simpa using h
      · rw [Memory.read_cons, if_neg (show ¬ a = a + (k + 1) by omega), h]
        simp

/-- What a byte reads as after a write: the written byte inside the written range, what it read before outside it. -/
theorem Memory.read_write (m : Memory) (o : Nat) (bs : List Byte) (a : Nat) :
    (m.write o bs).read a = if o ≤ a ∧ a < o + bs.length then bs.getD (a - o) unlistedByte else m.read a := by
  have hcells : ∀ c ∈ Memory.cells o bs, o ≤ c.1 ∧ c.1 < o + bs.length :=
    fun c hc => ⟨(Memory.mem_cells hc).1, (Memory.mem_cells hc).2.1⟩
  have hlow : ∀ c ∈ m.filter (fun c => decide (c.1 < o)), c.1 < o := by
    intro c hc; simpa using (List.mem_filter.mp hc).2
  have hhigh : ∀ c ∈ m.filter (fun c => decide (o + bs.length ≤ c.1)), o + bs.length ≤ c.1 := by
    intro c hc; simpa using (List.mem_filter.mp hc).2
  unfold Memory.write
  split
  · rename_i h
    rw [Memory.read_append_left fun c hc => by have := hhigh c hc; omega,
      Memory.read_append_of_unlisted fun c hc => by have := hlow c hc; omega]
    simpa [show o + (a - o) = a by omega] using Memory.read_cells o bs (a - o)
  · rename_i h
    by_cases hlt : a < o
    · rw [Memory.read_append_left fun c hc => by have := hhigh c hc; omega,
        Memory.read_append_left fun c hc => by have := (hcells c hc).1; omega,
        Memory.read_filter fun c _ hc => by simp; omega]
    · rw [Memory.read_append_of_unlisted fun c hc => ?_, Memory.read_filter fun c _ hc => by simp; omega]
      rcases List.mem_append.mp hc with hc | hc
      · have := hlow c hc; omega
      · have := hcells c hc; omega

/-- A byte inside the written range. -/
theorem Memory.read_write_inside {m : Memory} {o a : Nat} {bs : List Byte} (h : o ≤ a) (h' : a < o + bs.length) :
    (m.write o bs).read a = bs.getD (a - o) unlistedByte := by
  rw [Memory.read_write, if_pos ⟨h, h'⟩]

/-- A byte outside the written range. -/
theorem Memory.read_write_outside {m : Memory} {o a : Nat} {bs : List Byte} (h : a < o ∨ o + bs.length ≤ a) :
    (m.write o bs).read a = m.read a := by
  rw [Memory.read_write, if_neg (by omega)]

@[simp] theorem Memory.length_readRange (m : Memory) (a n : Nat) : (m.readRange a n).length = n := by
  simp [Memory.readRange]

/-- Byte `k` of a range. -/
theorem Memory.getElem_readRange (m : Memory) (a n k : Nat) (h : k < (m.readRange a n).length) :
    (m.readRange a n)[k] = m.read (a + k) := by
  simp [Memory.readRange]

/-- Two ranges of the same bytes are the same list. -/
theorem Memory.readRange_congr {m m' : Memory} {a n : Nat} (h : ∀ k, k < n → m.read (a + k) = m'.read (a + k)) :
    m.readRange a n = m'.readRange a n := by
  simp only [Memory.readRange]
  exact List.map_congr_left fun k hk => h k (List.mem_range.mp hk)

/-- A range in two parts. -/
theorem Memory.readRange_add (m : Memory) (a n k : Nat) :
    m.readRange a (n + k) = m.readRange a n ++ m.readRange (a + n) k := by
  simp [Memory.readRange, List.range_add, Function.comp_def, Nat.add_assoc]

/-- A range from its two parts. -/
theorem Memory.readRange_append {m : Memory} {n k : Nat} {l l' : List Byte} (h : m.readRange 0 n = l)
    (h' : m.readRange n k = l') : m.readRange 0 (n + k) = l ++ l' := by
  rw [Memory.readRange_add, h, Nat.zero_add, h']

/-- A range of clear bytes. -/
theorem Memory.readRange_zero {m : Memory} {a n : Nat} (h : ∀ k, k < n → m.read (a + k) = 0#8) :
    m.readRange a n = List.replicate n 0#8 := by
  apply List.ext_getElem (by simp)
  intro i h1 h2
  rw [Memory.getElem_readRange, h _ (by simpa using h1), List.getElem_replicate]

/-- The range that was written. -/
theorem Memory.readRange_write {m : Memory} {a n : Nat} {l : List Byte} (hl : l.length = n) :
    (m.write a l).readRange a n = l := by
  subst hl
  apply List.ext_getElem (by simp)
  intro i h1 h2
  rw [Memory.getElem_readRange, Memory.read_write_inside (by omega) (by omega)]
  simp [h2]

theorem Memory.wf_empty : Memory.empty.wf := by decide

theorem Memory.pairwise_cells (a : Nat) (bs : List Byte) :
    (Memory.cells a bs).Pairwise (fun c d => c.1 < d.1) := by
  induction bs generalizing a with
  | nil => simp [Memory.cells]
  | cons b bs ih =>
    rw [Memory.cells]
    split
    · exact ih _
    · refine List.pairwise_cons.mpr ⟨fun d hd => ?_, ih _⟩
      have := (Memory.mem_cells hd).1
      simp only; omega

/-- A write keeps the canonical form. -/
theorem Memory.wf_write {m : Memory} (h : m.wf) (o : Nat) (bs : List Byte) : (m.write o bs).wf := by
  obtain ⟨hp, hz⟩ := h
  constructor
  · unfold Memory.write
    rw [List.pairwise_append, List.pairwise_append]
    refine ⟨⟨hp.filter _, Memory.pairwise_cells o bs, ?_⟩, hp.filter _, ?_⟩
    · intro c hc d hd
      have h1 : c.1 < o := by simpa using (List.mem_filter.mp hc).2
      have h2 := (Memory.mem_cells hd).1
      omega
    · intro c hc d hd
      have h2 : o + bs.length ≤ d.1 := by simpa using (List.mem_filter.mp hd).2
      rcases List.mem_append.mp hc with hc | hc
      · have h1 : c.1 < o := by simpa using (List.mem_filter.mp hc).2
        omega
      · have h1 := (Memory.mem_cells hc).2.1
        omega
  · intro c hc
    unfold Memory.write at hc
    rcases List.mem_append.mp hc with hc | hc
    · rcases List.mem_append.mp hc with hc | hc
      · exact hz c (List.mem_filter.mp hc).1
      · exact (Memory.mem_cells hc).2.2
    · exact hz c (List.mem_filter.mp hc).1

/-- A write inside a bound keeps every listed address below it. -/
theorem Memory.bound_write {m : Memory} {n : Nat} (h : ∀ c ∈ m, c.1 < n) {o : Nat} {bs : List Byte}
    (hb : o + bs.length ≤ n) : ∀ c ∈ m.write o bs, c.1 < n := by
  intro c hc
  unfold Memory.write at hc
  rcases List.mem_append.mp hc with hc | hc
  · rcases List.mem_append.mp hc with hc | hc
    · exact h c (List.mem_filter.mp hc).1
    · have := (Memory.mem_cells hc).2.1; omega
  · exact h c (List.mem_filter.mp hc).1

/-- In the canonical form, a buffer whose every byte reads 0x00 is the cleared buffer. -/
theorem Memory.eq_empty_of_read {m : Memory} (h : m.wf) (hz : ∀ a, m.read a = unlistedByte) : m = Memory.empty := by
  cases m with
  | nil => rfl
  | cons c m =>
    have := hz c.1
    rw [Memory.read_cons, if_pos rfl] at this
    exact absurd this (h.2 c (by simp))

end Sys2Proof.Machine
end

