-- ==== Sys2Proof/Laws/Operands.lean ====
section
/-! SUPPORT. What the codec's accessors do, said once: a write inside the buffer changes its bytes of `TX` and nothing
else; the header and sub-header fields lie below byte 36, inside every buffer, so their setters never fault. Cite these
instead of unfolding a setter. -/

namespace Sys2Proof.Machine

open Sys2Proof

/-- Every buffer holds the Issue headers: `TXBUF_BYTES` is at least 36 (R7). -/
theorem txbufBytes_ge (c : Config) : 36 ≤ c.txbufBytes := by simp [Config.txbufBytes, issueHdrBytes]

/-- `TXBUF_BYTES` in numbers (R7). -/
theorem txbufBytes_eq (c : Config) : c.txbufBytes = 36 + 512 * c.maxSectors := rfl

@[simp] theorem Mac.length_toList (m : Mac) : m.toList.length = 6 := rfl
@[simp] theorem length_be16Bytes (v : BitVec 16) : (be16Bytes v).length = 2 := rfl
@[simp] theorem length_be32Bytes (v : BitVec 32) : (be32Bytes v).length = 4 := rfl
@[simp] theorem length_le24Bytes (v : BitVec 24) : (le24Bytes v).length = 3 := rfl
@[simp] theorem length_le64Bytes (v : BitVec 64) : (le64Bytes v).length = 8 := rfl
@[simp] theorem length_zeros (n : Nat) : (zeros n).length = n := by simp [zeros]

/-- A write inside the buffer. -/
theorem State.txWrite_ok {acc : Accessor} {o : Nat} {bs : List Byte} {s : State} (h : o + bs.length ≤ s.cfg.txbufBytes) :
    s.txWrite acc o bs = .ok { s with tx := s.tx.write o bs } := if_pos h

/-- A write that leaves the buffer is `CODEC_BOUNDS` (R68). -/
theorem State.txWrite_fault {acc : Accessor} {o : Nat} {bs : List Byte} {s : State}
    (h : ¬ o + bs.length ≤ s.cfg.txbufBytes) : s.txWrite acc o bs = .error (.codecBounds acc o) := if_neg h

/-- Everything a write can do. -/
theorem State.txWrite_cases {acc : Accessor} {o : Nat} {bs : List Byte} {s t : State} (h : s.txWrite acc o bs = .ok t) :
    o + bs.length ≤ s.cfg.txbufBytes ∧ t = { s with tx := s.tx.write o bs } := by
  unfold State.txWrite at h
  split at h
  · exact ⟨by assumption, (Except.ok.inj h).symm⟩
  · cases h

/-- A write below byte 36 never faults. -/
theorem State.txWrite_header {acc : Accessor} {o : Nat} {bs : List Byte} (s : State) (h : o + bs.length ≤ 36) :
    s.txWrite acc o bs = .ok { s with tx := s.tx.write o bs } :=
  State.txWrite_ok (Nat.le_trans h (txbufBytes_ge _))

/-- A getter inside its buffer. -/
theorem Buffer.get_ok {α : Type} {acc : Accessor} {o w : Nat} {f : (Nat → Byte) → α} {b : Buffer} (h : o + w ≤ b.size) :
    b.get acc o w f = .ok (f b.byte) := if_pos h

/-- A getter that leaves its buffer is `CODEC_BOUNDS` (R68). -/
theorem Buffer.get_fault {α : Type} {acc : Accessor} {o w : Nat} {f : (Nat → Byte) → α} {b : Buffer}
    (h : ¬ o + w ≤ b.size) : b.get acc o w f = .error (.codecBounds acc o) := if_neg h

/-! ### The setters below byte 36 -/

@[simp] theorem State.setEthDst_eq (v : Mac) (s : State) :
    s.setEthDst v = .ok { s with tx := s.tx.write 0 v.toList } := s.txWrite_header (by simp)

@[simp] theorem State.setEthSrc_eq (v : Mac) (s : State) :
    s.setEthSrc v = .ok { s with tx := s.tx.write 6 v.toList } := s.txWrite_header (by simp)

@[simp] theorem State.setEthType_eq (v : BitVec 16) (s : State) :
    s.setEthType v = .ok { s with tx := s.tx.write 12 (be16Bytes v) } := s.txWrite_header (by simp)

@[simp] theorem State.setAoeVer_eq (v : BitVec 4) (s : State) :
    s.setAoeVer v = .ok { s with tx := s.tx.write 14 [withVer (s.tx.read 14) v] } := s.txWrite_header (by simp)

@[simp] theorem State.setAoeFlagResponse_eq (v : Bool) (s : State) :
    s.setAoeFlagResponse v = .ok { s with tx := s.tx.write 14 [withFlagResponse (s.tx.read 14) v] } := s.txWrite_header (by simp)

@[simp] theorem State.setAoeFlagError_eq (v : Bool) (s : State) :
    s.setAoeFlagError v = .ok { s with tx := s.tx.write 14 [withFlagError (s.tx.read 14) v] } := s.txWrite_header (by simp)

@[simp] theorem State.setAoeError_eq (v : Byte) (s : State) :
    s.setAoeError v = .ok { s with tx := s.tx.write 15 [v] } := s.txWrite_header (by simp)

@[simp] theorem State.setAoeMajor_eq (v : BitVec 16) (s : State) :
    s.setAoeMajor v = .ok { s with tx := s.tx.write 16 (be16Bytes v) } := s.txWrite_header (by simp)

@[simp] theorem State.setAoeMinor_eq (v : Byte) (s : State) :
    s.setAoeMinor v = .ok { s with tx := s.tx.write 18 [v] } := s.txWrite_header (by simp)

@[simp] theorem State.setAoeCommand_eq (v : Byte) (s : State) :
    s.setAoeCommand v = .ok { s with tx := s.tx.write 19 [v] } := s.txWrite_header (by simp)

@[simp] theorem State.setAoeTag_eq (v : BitVec 32) (s : State) :
    s.setAoeTag v = .ok { s with tx := s.tx.write 20 (be32Bytes v) } := s.txWrite_header (by simp)

@[simp] theorem State.setQBufferCount_eq (v : BitVec 16) (s : State) :
    s.setQBufferCount v = .ok { s with tx := s.tx.write 24 (be16Bytes v) } := s.txWrite_header (by simp)

@[simp] theorem State.setQFirmwareVersion_eq (v : BitVec 16) (s : State) :
    s.setQFirmwareVersion v = .ok { s with tx := s.tx.write 26 (be16Bytes v) } := s.txWrite_header (by simp)

@[simp] theorem State.setQSectorCount_eq (v : Byte) (s : State) :
    s.setQSectorCount v = .ok { s with tx := s.tx.write 28 [v] } := s.txWrite_header (by simp)

@[simp] theorem State.setQAoeVer_eq (v : BitVec 4) (s : State) :
    s.setQAoeVer v = .ok { s with tx := s.tx.write 29 [withAoeVer (s.tx.read 29) v] } := s.txWrite_header (by simp)

@[simp] theorem State.setQCcmd_eq (v : BitVec 4) (s : State) :
    s.setQCcmd v = .ok { s with tx := s.tx.write 29 [withCcmd (s.tx.read 29) v] } := s.txWrite_header (by simp)

@[simp] theorem State.setQCslen_eq (v : BitVec 16) (s : State) :
    s.setQCslen v = .ok { s with tx := s.tx.write 30 (be16Bytes v) } := s.txWrite_header (by simp)

@[simp] theorem State.setIAflags_eq (v : Byte) (s : State) :
    s.setIAflags v = .ok { s with tx := s.tx.write 24 [v] } := s.txWrite_header (by simp)

@[simp] theorem State.setIErrFeature_eq (v : Byte) (s : State) :
    s.setIErrFeature v = .ok { s with tx := s.tx.write 25 [v] } := s.txWrite_header (by simp)

@[simp] theorem State.setISectorCount_eq (v : Byte) (s : State) :
    s.setISectorCount v = .ok { s with tx := s.tx.write 26 [v] } := s.txWrite_header (by simp)

@[simp] theorem State.setICmdStatus_eq (v : Byte) (s : State) :
    s.setICmdStatus v = .ok { s with tx := s.tx.write 27 [v] } := s.txWrite_header (by simp)

@[simp] theorem State.setIDeviceReady_eq (v : Bool) (s : State) :
    s.setIDeviceReady v = .ok { s with tx := s.tx.write 27 [withDeviceReady (s.tx.read 27) v] } := s.txWrite_header (by simp)

@[simp] theorem State.setIStatusError_eq (v : Bool) (s : State) :
    s.setIStatusError v = .ok { s with tx := s.tx.write 27 [withStatusError (s.tx.read 27) v] } := s.txWrite_header (by simp)

@[simp] theorem State.setILba_eq (v : BitVec 24) (s : State) :
    s.setILba v = .ok { s with tx := s.tx.write 28 (le24Bytes v) } := s.txWrite_header (by simp)

/-! ### The fields above byte 36 -/

theorem State.setIdCapacity_eq {v : BitVec 64} {s : State} (h : 1 ≤ s.cfg.maxSectors) :
    s.setIdCapacity v = .ok { s with tx := s.tx.write 236 (le64Bytes v) } :=
  State.txWrite_ok (by simp [txbufBytes_eq, identCapOff]; omega)

theorem State.setData_eq {k : Nat} {v : Sector} {s : State} (h : k < s.cfg.maxSectors) :
    s.setData k v = .ok { s with tx := s.tx.write (36 + 512 * k) v.toList } :=
  State.txWrite_ok (o := 36 + 512 * k) (by
    have hl : v.toList.length = 512 := Vector.length_toList
    rw [txbufBytes_eq, hl]; omega)

/-- The data window of an inbound frame that holds it (R94). -/
theorem Buffer.getData_rx {rx : List Byte} {k : Nat} (h : 36 + 512 * k + 512 ≤ rx.length) :
    (Buffer.rx rx).getData k = .ok (windowOf k (readerOf rx)) :=
  Buffer.get_ok (b := .rx rx) h

end Sys2Proof.Machine
end

