-- ==== Sys2Proof/Laws/Responder.lean ====
section
/-! SUPPORT. What the responder's shared operations do, said once. -/

namespace Sys2Proof.Machine

open Sys2Proof

/-- The buffer after the seed (R100). -/
def seededTx (m : Memory) (major : BitVec 16) (minor : Byte) (h : Header) (cmd : Byte) : Memory :=
  let m := (m.write 0 h.src.toList).write 12 (be16Bytes aoeEthertype)
  let m := m.write 14 [withVer (m.read 14) aoeVersion]
  let m := m.write 14 [withFlagResponse (m.read 14) true]
  let m := m.write 14 [withFlagError (m.read 14) false]
  ((((m.write 15 [0#8]).write 16 (be16Bytes major)).write 18 [minor]).write 19 [cmd]).write 20 (be32Bytes h.tag)

theorem State.seed_eq (s : State) (h : Header) (cmd : Byte) :
    s.seed h cmd = .ok { s with tCmd := cmd, tx := seededTx s.tx s.idMajor s.idMinor h cmd } := by
  simp only [State.seed, State.setEthDst_eq, State.setEthType_eq, State.setAoeVer_eq, State.setAoeFlagResponse_eq,
    State.setAoeFlagError_eq, State.setAoeError_eq, State.setAoeMajor_eq, State.setAoeMinor_eq,
    State.setAoeCommand_eq, State.setAoeTag_eq, bind, Except.bind]
  rfl

/-- Above the headers the seed writes nothing. -/
theorem seededTx_above {m : Memory} {major : BitVec 16} {minor : Byte} {h : Header} {cmd : Byte} {a : Nat} (ha : 24 ≤ a) :
    (seededTx m major minor h cmd).read a = m.read a := by
  unfold seededTx
  repeat rw [Memory.read_write_outside (by simp; omega)]

/-- Into a clear buffer the seed writes the reply's header of R64. -/
theorem seededTx_empty (major : BitVec 16) (minor : Byte) (h : Header) (cmd : Byte) :
    (seededTx Memory.empty major minor h cmd).readRange 0 24 = replyHeader major minor h cmd := by
  simp [seededTx, Memory.readRange, List.range_succ_eq_map, Memory.read_write, replyHeader, Mac.toList, be16Bytes, be32Bytes]
  decide

/-- A buffer whose first 24 bytes are still the seed's holds the reply's header (R64). -/
theorem readRange_header {m : Memory} {major : BitVec 16} {minor : Byte} {h : Header} {cmd : Byte}
    (hm : ∀ a, a < 24 → m.read a = (seededTx Memory.empty major minor h cmd).read a) :
    m.readRange 0 24 = replyHeader major minor h cmd := by
  rw [← seededTx_empty]
  apply Memory.readRange_congr
  intro k hk
  exact hm _ (by omega)

/-- A request that passes the checks of R98. -/
theorem State.validate_ok {s : State} {h : Header} (hk : s.RequestOk h) : s.validate false h = none := by
  obtain ⟨hd, ht, hv, he, hr, hM, hm⟩ := hk
  have hM' : h.major = s.idMajor ∨ h.major = majorBroadcast := hM
  have hm' : h.minor = s.idMinor ∨ h.minor = minorBroadcast := hm
  simp only [State.validate, ht, hv, he, hr, hM', hm', Mac.broadcast, Mac.empty, hd]
  simp

/-- The accepting step of a frame that fails a check: dropped, the buffer not written (R99). -/
theorem State.accept_drop {s : State} {f : Bool} {h : Header} {cmd : Byte} {rx : List Byte} {code : RCode}
    {form : State → Except Fault State} (hv : s.validate f h = some code) :
    s.accept f cmd h rx form = .ok ((s.latch rx).drop code) := by
  have hv' : (s.latch rx).validate f h = some code := hv
  simp only [State.accept, hv']

/-- The accepting step of a frame that passes every check: the form's own rule on the latched, seeded state. -/
theorem State.accept_ok {s : State} {f : Bool} {h : Header} {cmd : Byte} {rx : List Byte}
    {form : State → Except Fault State} (hv : s.validate f h = none) :
    s.accept f cmd h rx form =
      form { s.inTransaction rx cmd 0#8 0#24 0#8 with tx := seededTx s.tx s.idMajor s.idMinor h cmd } := by
  have hv' : (s.latch rx).validate f h = none := hv
  simp only [State.accept, hv', State.seed_eq]
  rfl

/-- A frame offered to a responder that accepts it. -/
theorem State.offer_responder {s : State} {rx : List Byte} {f g : State → Except Fault State} (hr : s.cfg.role = .responder)
    (hi : s.rstate = .idle) (hf : s.Fits rx) : s.offer rx f g = toOutcome (f s) := by
  have ha : s.acceptsFrame rx = true := by simp [State.acceptsFrame, hr, hi, hf]
  simp only [State.offer, ha, if_true, hr]

/-- A frame offered to an initiator that accepts it. -/
theorem State.offer_initiator {s : State} {rx : List Byte} {f g : State → Except Fault State} (hr : s.cfg.role = .initiator)
    (hc : s.cstate ≠ .txWait) (hf : s.Fits rx) : s.offer rx f g = toOutcome (g s) := by
  have ha : s.acceptsFrame rx = true := by simp [State.acceptsFrame, hr, hc, hf]
  simp only [State.offer, ha, if_true, hr]

/-- A valid response goes out (R118): everything `respond` does, for a length that `RSP_LEN` holds. -/
theorem State.respond_eq {s : State} {len : Nat} (hl : len < 2 ^ 18) :
    s.respond len = { s with
      rspValid := true, rspLen := BitVec.ofNat 18 len, rstate := .txWait, reqNo := s.reqNo + 1
      outputs := s.outputs ++ [.txReq (s.tx.readRange 0 len) len s.cfg.txTimeout] } := by
  have hn : (BitVec.ofNat 18 len).toNat = len := by simp only [BitVec.toNat_ofNat]; exact Nat.mod_eq_of_lt hl
  simp only [State.respond, State.transmit, State.requestTx, State.request, State.emit, hn]

/-! ### The Query response -/

/-- The buffer after the Query sub-header is composed (R105). -/
def queryTx (m : Memory) (c : Config) : Memory :=
  let m := ((m.write 24 (be16Bytes c.qcBufferCount)).write 26 (be16Bytes c.qcFirmwareVersion)).write 28 [c.qcSectorCount]
  (m.write 29 [withAoeVer (m.read 29) aoeVersion]).write 30 (be16Bytes 0#16)

theorem State.queryConfig_eq (s : State) :
    s.queryConfig = .ok ({ s with tx := queryTx s.tx s.cfg }.respond 32) := by
  simp only [State.queryConfig, State.setQBufferCount_eq, State.setQFirmwareVersion_eq, State.setQSectorCount_eq,
    State.setQAoeVer_eq, State.setQCslen_eq, bind, Except.bind, pure, Except.pure, queryTx]

/-- The Query sub-header leaves every byte outside 24 to 31. -/
theorem queryTx_outside {m : Memory} {c : Config} {a : Nat} (h : a < 24 ∨ 32 ≤ a) : (queryTx m c).read a = m.read a := by
  unfold queryTx
  rw [Memory.read_write_outside (by simp; omega), Memory.read_write_outside (by simp; omega),
    Memory.read_write_outside (by simp; omega), Memory.read_write_outside (by simp; omega),
    Memory.read_write_outside (by simp; omega)]

/-- Over a byte 29 that is clear, the Query sub-header is that of R64. -/
theorem queryTx_sub {m : Memory} {c : Config} (h : m.read 29 = 0#8) : (queryTx m c).readRange 24 8 = replyQuery c := by
  have hv : withAoeVer 0#8 aoeVersion = 0x10#8 := by decide
  have hz : byteOf 0#16 1 = 0#8 ∧ byteOf 0#16 0 = 0#8 := by decide
  simp [queryTx, Memory.readRange, List.range_succ_eq_map, Memory.read_write, replyQuery, be16Bytes, h, hv, hz]

end Sys2Proof.Machine
end

