-- ==== Sys2Proof/Laws/Ata.lean ====
section
/-! SUPPORT. What the Issue forms' shared operations do, said once: identify, the read loop and the write loop of
41_responder.md R106 to R111. -/

namespace Sys2Proof.Machine

open Sys2Proof

/-- Every sector is done when the index has reached the count (R108, R111). -/
theorem State.sectorsDone_iff (s : State) : s.sectorsDone = true ↔ s.tIdx.toNat = s.tCount.toNat := by
  have h : (s.tCount.setWidth 9).toNat = s.tCount.toNat := by
    rw [BitVec.toNat_setWidth, Nat.mod_eq_of_lt (by have := s.tCount.isLt; omega)]
  simp only [State.sectorsDone, beq_iff_eq]
  rw [← BitVec.toNat_inj, h]

/-- DRDY is set in byte 27 (R90). -/
def drdyTx (m : Memory) : Memory := m.write 27 [withDeviceReady (m.read 27) true]

/-- ERR is set in byte 27 (R91). -/
def errTx (m : Memory) : Memory := m.write 27 [withStatusError (m.read 27) true]

@[simp] theorem drdyTx_status (m : Memory) : (drdyTx m).read 27 = (m.read 27 ||| 0x40#8) := by
  rw [drdyTx, Memory.read_write_inside (by simp) (by simp)]; rfl
theorem drdyTx_outside {m : Memory} {a : Nat} (h : a ≠ 27) : (drdyTx m).read a = m.read a := by
  rw [drdyTx, Memory.read_write_outside (by simp; omega)]
@[simp] theorem errTx_status (m : Memory) : (errTx m).read 27 = (m.read 27 ||| 0x01#8) := by
  rw [errTx, Memory.read_write_inside (by simp) (by simp)]; rfl
theorem errTx_outside {m : Memory} {a : Nat} (h : a ≠ 27) : (errTx m).read a = m.read a := by
  rw [errTx, Memory.read_write_outside (by simp; omega)]

/-- The status sub-header of a reply: bytes 24 to 35 clear but for the status (R64). -/
theorem readRange_status {m : Memory} {b : Byte} (hb : m.read 27 = b)
    (hz : ∀ a, 24 ≤ a → a < 36 → a ≠ 27 → m.read a = 0#8) : m.readRange 24 12 = replyStatus b := by
  simp [Memory.readRange, List.range_succ_eq_map, replyStatus, hb, hz]

/-! ### Identify -/

theorem State.identify_eq {s : State} (h : 1 ≤ s.cfg.maxSectors) :
    s.identify = .ok ({ s with tx := drdyTx (s.tx.write 236 (le64Bytes s.idSectors)) }.respond 548) := by
  simp only [State.identify, State.setIdCapacity_eq h, State.setIDeviceReady_eq, bind, Except.bind, pure, Except.pure]
  rfl

/-! ### The read loop -/

theorem State.readNext_done {s : State} (h : s.tIdx.toNat = s.tCount.toNat) :
    s.readNext = .ok ({ s with tx := drdyTx s.tx }.respond (36 + 512 * s.tCount.toNat)) := by
  simp only [State.readNext, s.sectorsDone_iff.mpr h, if_true, State.setIDeviceReady_eq, bind, Except.bind, pure,
    Except.pure]
  rfl

theorem State.readNext_more {s : State} (h : s.tIdx.toNat ≠ s.tCount.toNat) :
    s.readNext = .ok { s with
      rstate := .sreadWait, reqNo := s.reqNo + 1, outputs := s.outputs ++ [.sread (s.tLba.toNat + s.tIdx.toNat)] } := by
  have hd : s.sectorsDone = false := by rw [Bool.eq_false_iff]; exact fun hh => h (s.sectorsDone_iff.mp hh)
  simp only [State.readNext, hd, Bool.false_eq_true, if_false]
  rfl

/-- A storage call failed (R109, R111): ERR is set and nothing is sent. -/
theorem State.storageFail_eq (s : State) (code : RCode) (kind : PrintKind) :
    s.storageFail code kind = .ok { s with
      tx := errTx s.tx, prints := s.prints ++ [kind], failIdx := s.tIdx, rspValid := false, outcome := code
      rstate := .done } := by
  simp only [State.storageFail, State.setIStatusError_eq, bind, Except.bind, pure, Except.pure]
  rfl

theorem State.readAnswered_ok {s : State} {d : Sector} (h : s.tIdx.toNat < s.cfg.maxSectors) :
    s.readAnswered true d =
      State.readNext { s with tx := s.tx.write (36 + 512 * s.tIdx.toNat) d.toList, tIdx := s.tIdx + 1#9 } := by
  simp only [State.readAnswered, State.setData_eq h, bind, Except.bind, if_true]

theorem State.readAnswered_fail {s : State} {d : Sector} (h : s.tIdx.toNat < s.cfg.maxSectors) :
    s.readAnswered false d =
      { s with tx := s.tx.write (36 + 512 * s.tIdx.toNat) d.toList }.storageFail .readFail .readFail := by
  simp only [State.readAnswered, State.setData_eq h, bind, Except.bind, Bool.false_eq_true, if_false]

/-! ### The write loop -/

theorem State.writeNext_done {s : State} (h : s.tIdx.toNat = s.tCount.toNat) :
    s.writeNext = .ok ({ s with tx := drdyTx s.tx }.respond 36) := by
  simp only [State.writeNext, s.sectorsDone_iff.mpr h, if_true, State.setIDeviceReady_eq, bind, Except.bind, pure,
    Except.pure]
  rfl

theorem State.writeNext_more {s : State} (h : s.tIdx.toNat ≠ s.tCount.toNat)
    (hr : 36 + 512 * s.tIdx.toNat + 512 ≤ s.rx.length) :
    s.writeNext = .ok { s with
      rstate := .swriteWait, reqNo := s.reqNo + 1
      outputs := s.outputs ++
        [.swrite (s.tLba.toNat + s.tIdx.toNat) (windowOf s.tIdx.toNat (readerOf s.rx))] } := by
  have hd : s.sectorsDone = false := by rw [Bool.eq_false_iff]; exact fun hh => h (s.sectorsDone_iff.mp hh)
  simp only [State.writeNext, hd, Bool.false_eq_true, if_false, Buffer.getData_rx hr, bind, Except.bind, pure, Except.pure]
  rfl

theorem State.writeAnswered_ok (s : State) :
    s.writeAnswered true = State.writeNext { s with tIdx := s.tIdx + 1#9 } := by
  simp only [State.writeAnswered, if_true]

theorem State.writeAnswered_fail (s : State) : s.writeAnswered false = s.storageFail .writeFail .writeFail := by
  simp only [State.writeAnswered, Bool.false_eq_true, if_false]

/-- The index of the next sector, which never wraps below a count of 8 bits (R16). -/
theorem toNat_nextIdx {i : BitVec 9} {n : BitVec 8} (h : i.toNat < n.toNat) : (i + 1#9).toNat = i.toNat + 1 := by
  have := n.isLt
  rw [BitVec.toNat_add, BitVec.toNat_ofNat]
  omega

/-- The bytes of a data window that the frame holds (R94). -/
theorem windowOf_toList {rx : List Byte} {k : Nat} (h : 36 + 512 * k + 512 ≤ rx.length) :
    (windowOf k (readerOf rx)).toList = (rx.drop (36 + 512 * k)).take 512 := by
  have hw : (windowOf k (readerOf rx)).toList = bytesOf (36 + 512 * k) 512 (readerOf rx) :=
    List.toList_toArray
  rw [hw]
  apply List.ext_getElem
  · rw [List.length_take, List.length_drop, Nat.min_eq_left (by omega), bytesOf, List.length_map, List.length_range]
  · intro i h1 h2
    have hi : i < 512 := by rwa [bytesOf, List.length_map, List.length_range] at h1
    simp only [bytesOf, List.getElem_map, List.getElem_range, List.getElem_take, List.getElem_drop]
    rw [readerOf, List.getD_eq_getElem _ _ (by omega)]

end Sys2Proof.Machine
end

