-- ==== Sys2Proof/Laws/Encoding.lean ====
section
/-! SUPPORT. What the decoder's readers find in an encoded frame, piece by piece, and what an encoder writes back from the
fields that were read. -/

namespace Sys2Proof

@[simp] theorem length_encodeHeader (f : Bool) (c : Byte) (h : Header) : (encodeHeader f c h).length = 24 := rfl
@[simp] theorem length_encodeQuerySub (q : QuerySub) : (encodeQuerySub q).length = 8 := rfl
@[simp] theorem length_encodeIssueSub (c : Byte) (i : IssueSub) : (encodeIssueSub c i).length = 12 := rfl

/-- The length of an Issue frame (R60). -/
theorem length_encodeIssue (f : Bool) (c : Byte) (h : Header) (x : Byte) (i : IssueSub) (t : List Byte) :
    (encodeHeader f c h ++ (encodeIssueSub x i ++ t)).length = 36 + t.length := by
  simp only [List.length_append, length_encodeHeader, length_encodeIssueSub]; omega

/-- What follows the AoE header. -/
@[simp] theorem drop_encodeHeader (f : Bool) (c : Byte) (h : Header) (t : List Byte) :
    (encodeHeader f c h ++ t).drop 24 = t := List.drop_left' rfl

/-- What follows the Query sub-header. -/
@[simp] theorem drop_encodeQuerySub (f : Bool) (c : Byte) (h : Header) (q : QuerySub) (t : List Byte) :
    (encodeHeader f c h ++ (encodeQuerySub q ++ t)).drop 32 = t := by
  rw [← List.append_assoc]; exact List.drop_left' rfl

/-- What follows the Issue sub-header. -/
@[simp] theorem drop_encodeIssueSub (f : Bool) (c : Byte) (h : Header) (x : Byte) (i : IssueSub) (t : List Byte) :
    (encodeHeader f c h ++ (encodeIssueSub x i ++ t)).drop 36 = t := by
  rw [← List.append_assoc]; exact List.drop_left' rfl

/-- The header fields of a frame that starts with an encoded header. -/
@[simp] theorem headerOf_encodeHeader (f : Bool) (c : Byte) (h : Header) (t : List Byte) :
    headerOf (readerOf (encodeHeader f c h ++ t)) = h := by
  obtain ⟨dst, src, etype, ver, fe, rs, er, major, minor, tag⟩ := h
  simp [headerOf, ethDstOf, ethSrcOf, ethTypeOf, aoeVersionOf, aoeFlagErrorOf, aoeFlagsRsvdOf, aoeErrorOf, aoeMajorOf,
    aoeMinorOf, aoeTagOf, readerOf, encodeHeader, Mac.toList, be16Bytes, be32Bytes]

@[simp] theorem aoeFlagResponseOf_encodeHeader (f : Bool) (c : Byte) (h : Header) (t : List Byte) :
    aoeFlagResponseOf (readerOf (encodeHeader f c h ++ t)) = f := by
  simp [aoeFlagResponseOf, readerOf, encodeHeader, Mac.toList, be16Bytes]

@[simp] theorem aoeCommandOf_encodeHeader (f : Bool) (c : Byte) (h : Header) (t : List Byte) :
    aoeCommandOf (readerOf (encodeHeader f c h ++ t)) = c := by
  simp [aoeCommandOf, readerOf, encodeHeader, Mac.toList, be16Bytes]

@[simp] theorem querySubOf_encode (f : Bool) (c : Byte) (h : Header) (q : QuerySub) (t : List Byte) :
    querySubOf (readerOf (encodeHeader f c h ++ (encodeQuerySub q ++ t))) = q := by
  obtain ⟨bc, fw, sc, av, cc, cl⟩ := q
  simp [querySubOf, qBufferCountOf, qFirmwareVersionOf, qSectorCountOf, qAoeVerOf, qCcmdOf, qCslenOf, readerOf,
    encodeHeader, encodeQuerySub, Mac.toList, be16Bytes, be32Bytes]

@[simp] theorem issueSubOf_encode (f : Bool) (c : Byte) (h : Header) (x : Byte) (i : IssueSub) (t : List Byte) :
    issueSubOf (readerOf (encodeHeader f c h ++ (encodeIssueSub x i ++ t))) = i := by
  obtain ⟨af, ef, sc, lba, l3, l4, l5, r0, r1⟩ := i
  simp [issueSubOf, iAflagsOf, iErrFeatureOf, iSectorCountOf, iLbaOf, readerOf, encodeHeader, encodeIssueSub, Mac.toList,
    be16Bytes, be32Bytes, le24Bytes]

@[simp] theorem iCmdStatusOf_encode (f : Bool) (c : Byte) (h : Header) (x : Byte) (i : IssueSub) (t : List Byte) :
    iCmdStatusOf (readerOf (encodeHeader f c h ++ (encodeIssueSub x i ++ t))) = x := by
  simp [iCmdStatusOf, readerOf, encodeHeader, encodeIssueSub, Mac.toList, be16Bytes, be32Bytes]

/-- The byte at an offset inside the frame, and the rest. -/
theorem drop_eq_reader {rx : List Byte} {k : Nat} (h : k < rx.length) : rx.drop k = readerOf rx k :: rx.drop (k + 1) := by
  rw [List.drop_eq_getElem_cons h, readerOf, List.getD_eq_getElem _ _ h]

/-- `n` bytes from an offset on, and the rest. -/
theorem drop_eq_bytesOf {rx : List Byte} {k n : Nat} (h : k + n ≤ rx.length) :
    rx.drop k = bytesOf k n (readerOf rx) ++ rx.drop (k + n) := by
  induction n generalizing k with
  | zero => simp [bytesOf]
  | succ n ih =>
    rw [drop_eq_reader (by omega), ih (by omega)]
    simp [bytesOf, List.range_succ_eq_map, Function.comp_def, Nat.add_assoc, Nat.add_comm 1]

/-- A frame of at least 24 bytes is its encoded header and the rest. -/
theorem exists_header {rx : List Byte} (h : 24 ≤ rx.length) :
    rx = encodeHeader (aoeFlagResponseOf (readerOf rx)) (aoeCommandOf (readerOf rx)) (headerOf (readerOf rx))
      ++ rx.drop 24 := by
  conv => lhs; rw [← List.drop_zero (l := rx), drop_eq_bytesOf (n := 24) (by simpa using h)]
  simp [encodeHeader, headerOf, ethDstOf, ethSrcOf, ethTypeOf, aoeVersionOf, aoeFlagErrorOf, aoeFlagsRsvdOf, aoeErrorOf,
    aoeMajorOf, aoeMinorOf, aoeTagOf, aoeFlagResponseOf, aoeCommandOf, bytesOf, Mac.toList, List.range_succ_eq_map]

/-- A Query frame with its whole sub-header. -/
theorem exists_querySub {rx : List Byte} (h : 32 ≤ rx.length) :
    rx.drop 24 = encodeQuerySub (querySubOf (readerOf rx)) ++ rx.drop 32 := by
  rw [drop_eq_bytesOf (n := 8) (by simpa using h)]
  simp [encodeQuerySub, querySubOf, qBufferCountOf, qFirmwareVersionOf, qSectorCountOf, qAoeVerOf, qCcmdOf, qCslenOf,
    bytesOf, List.range_succ_eq_map]

/-- An Issue frame with its whole sub-header. -/
theorem exists_issueSub {rx : List Byte} (h : 36 ≤ rx.length) :
    rx.drop 24 = encodeIssueSub (iCmdStatusOf (readerOf rx)) (issueSubOf (readerOf rx)) ++ rx.drop 36 := by
  rw [drop_eq_bytesOf (n := 12) (by simpa using h)]
  simp [encodeIssueSub, issueSubOf, iAflagsOf, iErrFeatureOf, iSectorCountOf, iLbaOf, iCmdStatusOf, bytesOf,
    List.range_succ_eq_map]

end Sys2Proof
end

