-- ==== Sys2Proof/Laws/Initiator.lean ====
section
/-! SUPPORT. What the initiator's shared operations do, said once: composing a request's header (42_initiator.md R129,
R130), sending it (R131), the argument check (R136) and the data windows of a Write (R135). -/

namespace Sys2Proof.Machine

open Sys2Proof

/-- The buffer after a request's header is composed (R130). -/
def composedTx (m : Memory) (dst : Mac) (major : BitVec 16) (minor cmd : Byte) (tag : BitVec 32) : Memory :=
  let m := (m.write 0 dst.toList).write 12 (be16Bytes aoeEthertype)
  let m := m.write 14 [withVer (m.read 14) aoeVersion]
  ((((m.write 15 [0#8]).write 16 (be16Bytes major)).write 18 [minor]).write 19 [cmd]).write 20 (be32Bytes tag)

theorem State.composeHeader_eq (s : State) (dst : Mac) (major : BitVec 16) (minor cmd : Byte) :
    s.composeHeader dst major minor cmd =
      .ok { s with tag := s.tag + 1#32, tx := composedTx s.tx dst major minor cmd (s.tag + 1#32) } := by
  simp only [State.composeHeader, State.setEthDst_eq, State.setEthType_eq, State.setAoeVer_eq, State.setAoeError_eq,
    State.setAoeMajor_eq, State.setAoeMinor_eq, State.setAoeCommand_eq, State.setAoeTag_eq, bind, Except.bind]
  rfl

/-- Above the headers composing writes nothing. -/
theorem composedTx_above {m : Memory} {dst : Mac} {major : BitVec 16} {minor cmd : Byte} {tag : BitVec 32} {a : Nat}
    (ha : 24 ≤ a) : (composedTx m dst major minor cmd tag).read a = m.read a := by
  unfold composedTx
  repeat rw [Memory.read_write_outside (by simp; omega)]

/-- Into a clear buffer composing writes the request's header of R65. -/
theorem composedTx_empty (dst : Mac) (major : BitVec 16) (minor cmd : Byte) (tag : BitVec 32) :
    (composedTx Memory.empty dst major minor cmd tag).readRange 0 24 = requestHeader dst major minor cmd tag := by
  simp [composedTx, Memory.readRange, List.range_succ_eq_map, Memory.read_write, requestHeader, Mac.toList, be16Bytes,
    be32Bytes]
  decide

/-- A buffer whose first 24 bytes are still the composed header holds the request's header (R65). -/
theorem readRange_requestHeader {m : Memory} {dst : Mac} {major : BitVec 16} {minor cmd : Byte} {tag : BitVec 32}
    (hm : ∀ a, a < 24 → m.read a = (composedTx Memory.empty dst major minor cmd tag).read a) :
    m.readRange 0 24 = requestHeader dst major minor cmd tag := by
  rw [← composedTx_empty]
  apply Memory.readRange_congr
  intro k hk
  exact hm _ (by omega)

/-- Sending the composed request (R131), up to its answer. -/
theorem State.send_eq (s : State) (len : Nat) :
    s.send len = { s with
      cPrev := s.cstate, cstate := .txWait, reqNo := s.reqNo + 1
      outputs := s.outputs ++ [.txReq (s.tx.readRange 0 len) len s.cfg.txTimeout] } := rfl

/-- The argument check (R136), as a proposition. -/
theorem argsOk_iff (c : Config) (sector count : Nat) :
    argsOk c sector count = true ↔ 1 ≤ count ∧ count ≤ c.maxSectors ∧ sector ≤ 2 ^ 24 - 1 := by
  simp [argsOk, and_assoc]

/-- Writing `n` data windows from window `k` on (R135): inside the buffer it completes, the bytes land one after the
other, and every other byte keeps its value. -/
theorem State.setWindows_eq {n k : Nat} {w : List Byte} {s : State} (hk : k + n ≤ s.cfg.maxSectors)
    (hw : w.length = 512 * n) :
    ∃ m, State.setWindows n k w s = .ok { s with tx := m } ∧ m.readRange (36 + 512 * k) (512 * n) = w ∧
      ∀ a, a < 36 + 512 * k ∨ 36 + 512 * (k + n) ≤ a → m.read a = s.tx.read a := by
  induction n generalizing k w s with
  | zero =>
    have : w = [] := by simpa using hw
    exact ⟨s.tx, rfl, by simp [this, Memory.readRange], fun _ _ => rfl⟩
  | succ n ih =>
    have hn : 512 * (n + 1) = 512 + 512 * n := by rw [Nat.mul_succ, Nat.add_comm]
    have hk1 : 512 * (k + 1) = 512 * k + 512 := Nat.mul_succ _ _
    have hkn : 512 * (k + (n + 1)) = 512 * k + 512 + 512 * n := by
      rw [Nat.mul_add, hn, Nat.add_assoc]
    have hkn' : 512 * (k + 1 + n) = 512 * k + 512 + 512 * n := by rw [Nat.mul_add, hk1]
    have ht : (w.take 512).length = 512 := by
      rw [List.length_take, Nat.min_eq_left (by rw [hw, hn]; exact Nat.le_add_right _ _)]
    have hd : (w.drop 512).length = 512 * n := by rw [List.length_drop, hw, hn, Nat.add_sub_cancel_left]
    have hb : windowOff k + (w.take 512).length ≤ s.cfg.txbufBytes := by
      have h1 : 512 * (k + (n + 1)) ≤ 512 * s.cfg.maxSectors := Nat.mul_le_mul_left _ hk
      rw [ht, txbufBytes_eq, windowOff]
      rw [hkn] at h1
      generalize 512 * n = y at h1
      simp only [issueHdrBytes, sectorBytes]
      omega
    obtain ⟨m, h1, h2, h3⟩ := ih (k := k + 1) (w := w.drop 512)
      (s := { s with tx := s.tx.write (36 + 512 * k) (w.take 512) }) (by simp only; omega) hd
    refine ⟨m, ?_, ?_, ?_⟩
    · rw [State.setWindows]
      simp only [sectorBytes, State.txWrite_ok hb, bind, Except.bind]
      exact h1
    · have hlow : m.readRange (36 + 512 * k) 512 = w.take 512 := by
        rw [Memory.readRange_congr (m' := s.tx.write (36 + 512 * k) (w.take 512)) (fun j hj => h3 _ (by rw [hk1]; omega)),
          Memory.readRange_write ht]
      have hhigh : m.readRange (36 + 512 * k + 512) (512 * n) = w.drop 512 := by
        rw [Nat.add_assoc, ← hk1]; exact h2
      rw [hn, Memory.readRange_add, hlow, hhigh, List.take_append_drop]
    · intro a ha
      rw [hkn] at ha
      have hh := h3 a (by rw [hk1, hkn']; generalize 512 * n = y at ha ⊢; omega)
      rw [hh, Memory.read_write_outside (by rw [ht]; generalize 512 * n = y at ha; omega)]

end Sys2Proof.Machine
end

