-- ==== Sys2Proof/Laws/Ops.lean ====
section
/-! SUPPORT. What the shared operations of Machine/Ops.lean do, said once: the outcome of a computation, which inputs each
role accepts, and that the operations on the buffer keep it canonical and inside its bounds. -/

namespace Sys2Proof.Machine

open Sys2Proof

@[simp] theorem toOutcome_ok (s : State) : toOutcome (.ok s) = .next s := rfl

@[simp] theorem toOutcome_error (f : Fault) : toOutcome (.error f) = .fault f := rfl

/-- A computation answers a next state exactly when it completes with it. -/
theorem toOutcome_next_iff (x : Except Fault State) (t : State) : toOutcome x = .next t ↔ x = .ok t := by
  cases x <;> simp

/-- No computation of the machine is refused. -/
theorem toOutcome_ne_refused (x : Except Fault State) (r : Refusal) : toOutcome x ≠ .refused r := by
  cases x <;> simp

/-! ### Which inputs each role accepts (R24) -/

theorem State.accepts_frame_responder {s : State} (hr : s.cfg.role = .responder) (rx : List Byte) :
    s.accepts (.frame rx) = true ↔ s.Fits rx ∧ s.rstate = .idle := by
  simp [State.accepts, State.acceptsFrame, hr]

theorem State.accepts_frame_initiator {s : State} (hr : s.cfg.role = .initiator) (rx : List Byte) :
    s.accepts (.frame rx) = true ↔ s.Fits rx ∧ s.cstate ≠ .txWait := by
  simp [State.accepts, State.acceptsFrame, hr]

theorem State.accepts_host_initiator {s : State} (hr : s.cfg.role = .initiator) (cmd : HostCmd) :
    s.accepts (.host cmd) = true ↔ s.cstate ≠ .txWait ∧ s.cstate ≠ .awaitOp := by
  simp [State.accepts, State.acceptsHost, hr]

theorem State.accepts_txAnswer_responder {s : State} (hr : s.cfg.role = .responder) (n : Nat) (ok : Bool) :
    s.accepts (.txAnswer n ok) = true ↔ n = s.reqNo ∧ (s.rstate = .txWait ∨ s.rstate = .initTxWait) := by
  simp [State.accepts, State.awaitsTx, hr]

theorem State.accepts_txAnswer_initiator {s : State} (hr : s.cfg.role = .initiator) (n : Nat) (ok : Bool) :
    s.accepts (.txAnswer n ok) = true ↔ n = s.reqNo ∧ s.cstate = .txWait := by
  simp [State.accepts, State.awaitsTx, hr]

theorem State.accepts_readAnswer {s : State} (n : Nat) (ok : Bool) (d : Sector) :
    s.accepts (.readAnswer n ok d) = true ↔ n = s.reqNo ∧ s.cfg.role = .responder ∧ s.rstate = .sreadWait := by
  simp [State.accepts, State.awaitsStorage, and_assoc]

theorem State.accepts_writeAnswer {s : State} (n : Nat) (ok : Bool) :
    s.accepts (.writeAnswer n ok) = true ↔ n = s.reqNo ∧ s.cfg.role = .responder ∧ s.rstate = .swriteWait := by
  simp [State.accepts, State.awaitsStorage, and_assoc]

/-! ### The buffer stays canonical and inside its bounds -/

/-- A write that completes keeps the canonical form and the bounds. -/
theorem State.txOk_txWrite {acc : Accessor} {o : Nat} {bs : List Byte} {s t : State} (h : s.TxOk)
    (hw : s.txWrite acc o bs = .ok t) : t.TxOk := by
  obtain ⟨hb, rfl⟩ := State.txWrite_cases hw
  exact ⟨Memory.wf_write h.1 _ _, Memory.bound_write h.2 hb⟩

/-- A read-modify-write that completes keeps the canonical form and the bounds. -/
theorem State.txOk_txModify {acc : Accessor} {o : Nat} {f : Byte → Byte} {s t : State} (h : s.TxOk)
    (hw : s.txModify acc o f = .ok t) : t.TxOk := State.txOk_txWrite h hw

/-- The clear keeps the canonical form and the bounds. -/
theorem State.txOk_clearTx (s : State) : s.clearTx.TxOk := ⟨Memory.wf_empty, by simp [Memory.empty, State.clearTx]⟩

/-- Writing several data windows keeps the canonical form and the bounds, and changes the buffer alone. -/
theorem State.txOk_setWindows {n k : Nat} {w : List Byte} {s t : State} (h : s.TxOk)
    (hw : State.setWindows n k w s = .ok t) : t.TxOk ∧ ∃ m, t = { s with tx := m } := by
  induction n generalizing k w s with
  | zero =>
    simp only [State.setWindows] at hw
    cases hw
    exact ⟨h, _, rfl⟩
  | succ n ih =>
    simp only [State.setWindows, bind, Except.bind] at hw
    split at hw
    · cases hw
    · rename_i v hv
      obtain ⟨_, rfl⟩ := State.txWrite_cases hv
      obtain ⟨h1, m, rfl⟩ := ih (State.txOk_txWrite h hv) hw
      exact ⟨h1, m, rfl⟩

end Sys2Proof.Machine
end

