-- ==== Sys2Proof/Laws/PerInstr.lean ====
section
/-! SUPPORT. Statements for all instructions, one lemma per constructor: the bytes that select a frame's row in the opcode
table (30_encoding.md R61). -/

namespace Sys2Proof.Laws.KeyBytes

open Sys2Proof

/-- Whether an instruction's row has the R flag set. -/
def response : Instr → Bool
  | .queryConfig _ _        => false
  | .ataIdentify _ _ _      => false
  | .ataReadRetry _ _ _     => false
  | .ataWriteRetry _ _ _    => false
  | .ataUnsupported _ _ _ _ => false
  | .aoeUnsupported _ _ _   => false
  | .queryResponse _ _      => true
  | .ataResponse _ _        => true

/-- The AoE command of an instruction. -/
def command : Instr → Byte
  | .queryConfig _ _        => 0x01#8
  | .ataIdentify _ _ _      => 0x00#8
  | .ataReadRetry _ _ _     => 0x00#8
  | .ataWriteRetry _ _ _    => 0x00#8
  | .ataUnsupported _ _ _ _ => 0x00#8
  | .aoeUnsupported _ c _   => c
  | .queryResponse _ _      => 0x01#8
  | .ataResponse _ _        => 0x00#8

/-- An encoded frame holds the whole AoE header, with the R flag and the command of its row. -/
def Statement (i : Instr) : Prop :=
  24 ≤ (encode i).length ∧ aoeFlagResponseOf (readerOf (encode i)) = response i ∧
  aoeCommandOf (readerOf (encode i)) = command i

theorem queryConfig (h : Header) (q : QueryTail) : Statement (.queryConfig h q) := by
  simp [Statement, encode, response, command]

theorem ataIdentify (h : Header) (sub : IssueSub) (data : List Byte) : Statement (.ataIdentify h sub data) := by
  simp [Statement, encode, response, command]

theorem ataReadRetry (h : Header) (sub : IssueSub) (data : List Byte) : Statement (.ataReadRetry h sub data) := by
  simp [Statement, encode, response, command]

theorem ataWriteRetry (h : Header) (sub : IssueSub) (data : List Byte) : Statement (.ataWriteRetry h sub data) := by
  simp [Statement, encode, response, command]

theorem ataUnsupported (h : Header) (ata : Byte) (sub : IssueSub) (data : List Byte) :
    Statement (.ataUnsupported h ata sub data) := by
  simp [Statement, encode, response, command]

theorem aoeUnsupported (h : Header) (c : Byte) (payload : List Byte) : Statement (.aoeUnsupported h c payload) := by
  simp [Statement, encode, response, command]

theorem queryResponse (h : Header) (q : QueryTail) : Statement (.queryResponse h q) := by
  simp [Statement, encode, response, command]

theorem ataResponse (h : Header) (r : IssueTail) : Statement (.ataResponse h r) := by
  simp [Statement, encode, response, command]

end Sys2Proof.Laws.KeyBytes
end

