-- ==== Sys2Proof/Laws/Reset.lean ====
section
/-! SUPPORT. What `RESET` and `init()` do, said once (70_reset_and_hazards.md R167, 41_responder.md R122). -/

namespace Sys2Proof.Machine

open Sys2Proof

/-- The announce in a clear buffer. -/
def announceTx : Memory := Memory.write Memory.empty 0 announceFrame

theorem length_announceFrame : announceFrame.length = 32 := by decide

/-- The setters of R122 compose the announce. -/
theorem announceTx_eq :
    (((((Memory.empty.write 0 Mac.broadcast.toList).write 12 (be16Bytes aoeEthertype)).write 14
      [withVer (((Memory.empty.write 0 Mac.broadcast.toList).write 12 (be16Bytes aoeEthertype)).read 14) aoeVersion]).write
      16 (be16Bytes majorBroadcast)).write 18 [minorBroadcast]).write 19 [aoeCmdQuery] = announceTx := by decide

/-- The announce's 32 bytes go out. -/
theorem announceTx_readRange : announceTx.readRange 0 32 = announceFrame := by decide

/-- `init()` with an announce. -/
theorem State.init_announces {s : State} (h : s.cfg.announceOnInit = true) :
    s.init = .ok { s with
      tx := announceTx, rstate := .initTxWait, reqNo := s.reqNo + 1
      outputs := s.outputs ++ [.txReq announceFrame 32 s.cfg.txTimeout] } := by
  simp only [State.init, h, if_true, State.setEthDst_eq, State.setEthType_eq, State.setAoeVer_eq, State.setAoeMajor_eq,
    State.setAoeMinor_eq, State.setAoeCommand_eq, bind, Except.bind, pure, Except.pure, State.clearTx, announceTx_eq,
    State.requestTx, State.request, State.emit, queryRspBytes, announceTx_readRange]

/-- `init()` without an announce. -/
theorem State.init_silent {s : State} (h : s.cfg.announceOnInit = false) :
    s.init = .ok { s with tx := Memory.empty, rstate := .idle } := by
  simp only [State.init, h, Bool.false_eq_true, if_false, State.clearTx]

/-- The buffer after `RESET` is in canonical form, for every configuration. -/
theorem wf_resetTx (c : Config) : (resetTx c).wf := by
  unfold resetTx
  split
  · exact Memory.wf_write Memory.wf_empty _ _
  · exact Memory.wf_empty

/-- The buffer of the state after reset is in canonical form. -/
theorem State.wf_reset_tx : State.reset.tx.wf := wf_resetTx Config.standard

end Sys2Proof.Machine
end

