-- ==== Sys2Proof/Laws/State.lean ====
section
/-! SUPPORT. One lemma per field per shared update, so that no proof unfolds a record update. -/

namespace Sys2Proof.Machine

open Sys2Proof

/-! ### `clear` (R95) -/

@[simp] theorem State.clearTx_cfg (s : State) : s.clearTx.cfg = s.cfg := rfl
@[simp] theorem State.clearTx_tx (s : State) : s.clearTx.tx = Memory.empty := rfl
@[simp] theorem State.clearTx_idMajor (s : State) : s.clearTx.idMajor = s.idMajor := rfl
@[simp] theorem State.clearTx_idMinor (s : State) : s.clearTx.idMinor = s.idMinor := rfl
@[simp] theorem State.clearTx_idSectors (s : State) : s.clearTx.idSectors = s.idSectors := rfl
@[simp] theorem State.clearTx_rstate (s : State) : s.clearTx.rstate = s.rstate := rfl
@[simp] theorem State.clearTx_tCmd (s : State) : s.clearTx.tCmd = s.tCmd := rfl
@[simp] theorem State.clearTx_tAta (s : State) : s.clearTx.tAta = s.tAta := rfl
@[simp] theorem State.clearTx_tLba (s : State) : s.clearTx.tLba = s.tLba := rfl
@[simp] theorem State.clearTx_tCount (s : State) : s.clearTx.tCount = s.tCount := rfl
@[simp] theorem State.clearTx_tIdx (s : State) : s.clearTx.tIdx = s.tIdx := rfl
@[simp] theorem State.clearTx_rspValid (s : State) : s.clearTx.rspValid = s.rspValid := rfl
@[simp] theorem State.clearTx_rspLen (s : State) : s.clearTx.rspLen = s.rspLen := rfl
@[simp] theorem State.clearTx_outcome (s : State) : s.clearTx.outcome = s.outcome := rfl
@[simp] theorem State.clearTx_failIdx (s : State) : s.clearTx.failIdx = s.failIdx := rfl
@[simp] theorem State.clearTx_cstate (s : State) : s.clearTx.cstate = s.cstate := rfl
@[simp] theorem State.clearTx_tag (s : State) : s.clearTx.tag = s.tag := rfl
@[simp] theorem State.clearTx_dest (s : State) : s.clearTx.dest = s.dest := rfl
@[simp] theorem State.clearTx_cSectors (s : State) : s.clearTx.cSectors = s.cSectors := rfl
@[simp] theorem State.clearTx_opKind (s : State) : s.clearTx.opKind = s.opKind := rfl
@[simp] theorem State.clearTx_opCount (s : State) : s.clearTx.opCount = s.opCount := rfl
@[simp] theorem State.clearTx_strayCnt (s : State) : s.clearTx.strayCnt = s.strayCnt := rfl
@[simp] theorem State.clearTx_cResult (s : State) : s.clearTx.cResult = s.cResult := rfl
@[simp] theorem State.clearTx_cOutcome (s : State) : s.clearTx.cOutcome = s.cOutcome := rfl
@[simp] theorem State.clearTx_cCode (s : State) : s.clearTx.cCode = s.cCode := rfl
@[simp] theorem State.clearTx_rdata (s : State) : s.clearTx.rdata = s.rdata := rfl
@[simp] theorem State.clearTx_cPrev (s : State) : s.clearTx.cPrev = s.cPrev := rfl
@[simp] theorem State.clearTx_rx (s : State) : s.clearTx.rx = s.rx := rfl
@[simp] theorem State.clearTx_inputs (s : State) : s.clearTx.inputs = s.inputs := rfl
@[simp] theorem State.clearTx_reqNo (s : State) : s.clearTx.reqNo = s.reqNo := rfl
@[simp] theorem State.clearTx_outputs (s : State) : s.clearTx.outputs = s.outputs := rfl
@[simp] theorem State.clearTx_prints (s : State) : s.clearTx.prints = s.prints := rfl

/-! ### An output event (R25) -/

@[simp] theorem State.emit_cfg (s : State) (e : Output) : (s.emit e).cfg = s.cfg := rfl
@[simp] theorem State.emit_tx (s : State) (e : Output) : (s.emit e).tx = s.tx := rfl
@[simp] theorem State.emit_idMajor (s : State) (e : Output) : (s.emit e).idMajor = s.idMajor := rfl
@[simp] theorem State.emit_idMinor (s : State) (e : Output) : (s.emit e).idMinor = s.idMinor := rfl
@[simp] theorem State.emit_idSectors (s : State) (e : Output) : (s.emit e).idSectors = s.idSectors := rfl
@[simp] theorem State.emit_rstate (s : State) (e : Output) : (s.emit e).rstate = s.rstate := rfl
@[simp] theorem State.emit_tCmd (s : State) (e : Output) : (s.emit e).tCmd = s.tCmd := rfl
@[simp] theorem State.emit_tAta (s : State) (e : Output) : (s.emit e).tAta = s.tAta := rfl
@[simp] theorem State.emit_tLba (s : State) (e : Output) : (s.emit e).tLba = s.tLba := rfl
@[simp] theorem State.emit_tCount (s : State) (e : Output) : (s.emit e).tCount = s.tCount := rfl
@[simp] theorem State.emit_tIdx (s : State) (e : Output) : (s.emit e).tIdx = s.tIdx := rfl
@[simp] theorem State.emit_rspValid (s : State) (e : Output) : (s.emit e).rspValid = s.rspValid := rfl
@[simp] theorem State.emit_rspLen (s : State) (e : Output) : (s.emit e).rspLen = s.rspLen := rfl
@[simp] theorem State.emit_outcome (s : State) (e : Output) : (s.emit e).outcome = s.outcome := rfl
@[simp] theorem State.emit_failIdx (s : State) (e : Output) : (s.emit e).failIdx = s.failIdx := rfl
@[simp] theorem State.emit_cstate (s : State) (e : Output) : (s.emit e).cstate = s.cstate := rfl
@[simp] theorem State.emit_tag (s : State) (e : Output) : (s.emit e).tag = s.tag := rfl
@[simp] theorem State.emit_dest (s : State) (e : Output) : (s.emit e).dest = s.dest := rfl
@[simp] theorem State.emit_cSectors (s : State) (e : Output) : (s.emit e).cSectors = s.cSectors := rfl
@[simp] theorem State.emit_opKind (s : State) (e : Output) : (s.emit e).opKind = s.opKind := rfl
@[simp] theorem State.emit_opCount (s : State) (e : Output) : (s.emit e).opCount = s.opCount := rfl
@[simp] theorem State.emit_strayCnt (s : State) (e : Output) : (s.emit e).strayCnt = s.strayCnt := rfl
@[simp] theorem State.emit_cResult (s : State) (e : Output) : (s.emit e).cResult = s.cResult := rfl
@[simp] theorem State.emit_cOutcome (s : State) (e : Output) : (s.emit e).cOutcome = s.cOutcome := rfl
@[simp] theorem State.emit_cCode (s : State) (e : Output) : (s.emit e).cCode = s.cCode := rfl
@[simp] theorem State.emit_rdata (s : State) (e : Output) : (s.emit e).rdata = s.rdata := rfl
@[simp] theorem State.emit_cPrev (s : State) (e : Output) : (s.emit e).cPrev = s.cPrev := rfl
@[simp] theorem State.emit_rx (s : State) (e : Output) : (s.emit e).rx = s.rx := rfl
@[simp] theorem State.emit_inputs (s : State) (e : Output) : (s.emit e).inputs = s.inputs := rfl
@[simp] theorem State.emit_reqNo (s : State) (e : Output) : (s.emit e).reqNo = s.reqNo := rfl
@[simp] theorem State.emit_outputs (s : State) (e : Output) : (s.emit e).outputs = s.outputs ++ [e] := rfl
@[simp] theorem State.emit_prints (s : State) (e : Output) : (s.emit e).prints = s.prints := rfl

/-! ### A diagnostic (R27) -/

@[simp] theorem State.print_cfg (s : State) (k : PrintKind) : (s.print k).cfg = s.cfg := rfl
@[simp] theorem State.print_tx (s : State) (k : PrintKind) : (s.print k).tx = s.tx := rfl
@[simp] theorem State.print_idMajor (s : State) (k : PrintKind) : (s.print k).idMajor = s.idMajor := rfl
@[simp] theorem State.print_idMinor (s : State) (k : PrintKind) : (s.print k).idMinor = s.idMinor := rfl
@[simp] theorem State.print_idSectors (s : State) (k : PrintKind) : (s.print k).idSectors = s.idSectors := rfl
@[simp] theorem State.print_rstate (s : State) (k : PrintKind) : (s.print k).rstate = s.rstate := rfl
@[simp] theorem State.print_tCmd (s : State) (k : PrintKind) : (s.print k).tCmd = s.tCmd := rfl
@[simp] theorem State.print_tAta (s : State) (k : PrintKind) : (s.print k).tAta = s.tAta := rfl
@[simp] theorem State.print_tLba (s : State) (k : PrintKind) : (s.print k).tLba = s.tLba := rfl
@[simp] theorem State.print_tCount (s : State) (k : PrintKind) : (s.print k).tCount = s.tCount := rfl
@[simp] theorem State.print_tIdx (s : State) (k : PrintKind) : (s.print k).tIdx = s.tIdx := rfl
@[simp] theorem State.print_rspValid (s : State) (k : PrintKind) : (s.print k).rspValid = s.rspValid := rfl
@[simp] theorem State.print_rspLen (s : State) (k : PrintKind) : (s.print k).rspLen = s.rspLen := rfl
@[simp] theorem State.print_outcome (s : State) (k : PrintKind) : (s.print k).outcome = s.outcome := rfl
@[simp] theorem State.print_failIdx (s : State) (k : PrintKind) : (s.print k).failIdx = s.failIdx := rfl
@[simp] theorem State.print_cstate (s : State) (k : PrintKind) : (s.print k).cstate = s.cstate := rfl
@[simp] theorem State.print_tag (s : State) (k : PrintKind) : (s.print k).tag = s.tag := rfl
@[simp] theorem State.print_dest (s : State) (k : PrintKind) : (s.print k).dest = s.dest := rfl
@[simp] theorem State.print_cSectors (s : State) (k : PrintKind) : (s.print k).cSectors = s.cSectors := rfl
@[simp] theorem State.print_opKind (s : State) (k : PrintKind) : (s.print k).opKind = s.opKind := rfl
@[simp] theorem State.print_opCount (s : State) (k : PrintKind) : (s.print k).opCount = s.opCount := rfl
@[simp] theorem State.print_strayCnt (s : State) (k : PrintKind) : (s.print k).strayCnt = s.strayCnt := rfl
@[simp] theorem State.print_cResult (s : State) (k : PrintKind) : (s.print k).cResult = s.cResult := rfl
@[simp] theorem State.print_cOutcome (s : State) (k : PrintKind) : (s.print k).cOutcome = s.cOutcome := rfl
@[simp] theorem State.print_cCode (s : State) (k : PrintKind) : (s.print k).cCode = s.cCode := rfl
@[simp] theorem State.print_rdata (s : State) (k : PrintKind) : (s.print k).rdata = s.rdata := rfl
@[simp] theorem State.print_cPrev (s : State) (k : PrintKind) : (s.print k).cPrev = s.cPrev := rfl
@[simp] theorem State.print_rx (s : State) (k : PrintKind) : (s.print k).rx = s.rx := rfl
@[simp] theorem State.print_inputs (s : State) (k : PrintKind) : (s.print k).inputs = s.inputs := rfl
@[simp] theorem State.print_reqNo (s : State) (k : PrintKind) : (s.print k).reqNo = s.reqNo := rfl
@[simp] theorem State.print_outputs (s : State) (k : PrintKind) : (s.print k).outputs = s.outputs := rfl
@[simp] theorem State.print_prints (s : State) (k : PrintKind) : (s.print k).prints = s.prints ++ [k] := rfl

/-! ### A collaborator request (R27) -/

@[simp] theorem State.request_cfg (s : State) (e : Output) : (s.request e).cfg = s.cfg := rfl
@[simp] theorem State.request_tx (s : State) (e : Output) : (s.request e).tx = s.tx := rfl
@[simp] theorem State.request_idMajor (s : State) (e : Output) : (s.request e).idMajor = s.idMajor := rfl
@[simp] theorem State.request_idMinor (s : State) (e : Output) : (s.request e).idMinor = s.idMinor := rfl
@[simp] theorem State.request_idSectors (s : State) (e : Output) : (s.request e).idSectors = s.idSectors := rfl
@[simp] theorem State.request_rstate (s : State) (e : Output) : (s.request e).rstate = s.rstate := rfl
@[simp] theorem State.request_tCmd (s : State) (e : Output) : (s.request e).tCmd = s.tCmd := rfl
@[simp] theorem State.request_tAta (s : State) (e : Output) : (s.request e).tAta = s.tAta := rfl
@[simp] theorem State.request_tLba (s : State) (e : Output) : (s.request e).tLba = s.tLba := rfl
@[simp] theorem State.request_tCount (s : State) (e : Output) : (s.request e).tCount = s.tCount := rfl
@[simp] theorem State.request_tIdx (s : State) (e : Output) : (s.request e).tIdx = s.tIdx := rfl
@[simp] theorem State.request_rspValid (s : State) (e : Output) : (s.request e).rspValid = s.rspValid := rfl
@[simp] theorem State.request_rspLen (s : State) (e : Output) : (s.request e).rspLen = s.rspLen := rfl
@[simp] theorem State.request_outcome (s : State) (e : Output) : (s.request e).outcome = s.outcome := rfl
@[simp] theorem State.request_failIdx (s : State) (e : Output) : (s.request e).failIdx = s.failIdx := rfl
@[simp] theorem State.request_cstate (s : State) (e : Output) : (s.request e).cstate = s.cstate := rfl
@[simp] theorem State.request_tag (s : State) (e : Output) : (s.request e).tag = s.tag := rfl
@[simp] theorem State.request_dest (s : State) (e : Output) : (s.request e).dest = s.dest := rfl
@[simp] theorem State.request_cSectors (s : State) (e : Output) : (s.request e).cSectors = s.cSectors := rfl
@[simp] theorem State.request_opKind (s : State) (e : Output) : (s.request e).opKind = s.opKind := rfl
@[simp] theorem State.request_opCount (s : State) (e : Output) : (s.request e).opCount = s.opCount := rfl
@[simp] theorem State.request_strayCnt (s : State) (e : Output) : (s.request e).strayCnt = s.strayCnt := rfl
@[simp] theorem State.request_cResult (s : State) (e : Output) : (s.request e).cResult = s.cResult := rfl
@[simp] theorem State.request_cOutcome (s : State) (e : Output) : (s.request e).cOutcome = s.cOutcome := rfl
@[simp] theorem State.request_cCode (s : State) (e : Output) : (s.request e).cCode = s.cCode := rfl
@[simp] theorem State.request_rdata (s : State) (e : Output) : (s.request e).rdata = s.rdata := rfl
@[simp] theorem State.request_cPrev (s : State) (e : Output) : (s.request e).cPrev = s.cPrev := rfl
@[simp] theorem State.request_rx (s : State) (e : Output) : (s.request e).rx = s.rx := rfl
@[simp] theorem State.request_inputs (s : State) (e : Output) : (s.request e).inputs = s.inputs := rfl
@[simp] theorem State.request_reqNo (s : State) (e : Output) : (s.request e).reqNo = s.reqNo + 1 := rfl
@[simp] theorem State.request_outputs (s : State) (e : Output) : (s.request e).outputs = s.outputs ++ [e] := rfl
@[simp] theorem State.request_prints (s : State) (e : Output) : (s.request e).prints = s.prints := rfl

/-! ### A transmit request (R43) -/

@[simp] theorem State.requestTx_cfg (s : State) (n : Nat) : (s.requestTx n).cfg = s.cfg := rfl
@[simp] theorem State.requestTx_tx (s : State) (n : Nat) : (s.requestTx n).tx = s.tx := rfl
@[simp] theorem State.requestTx_idMajor (s : State) (n : Nat) : (s.requestTx n).idMajor = s.idMajor := rfl
@[simp] theorem State.requestTx_idMinor (s : State) (n : Nat) : (s.requestTx n).idMinor = s.idMinor := rfl
@[simp] theorem State.requestTx_idSectors (s : State) (n : Nat) : (s.requestTx n).idSectors = s.idSectors := rfl
@[simp] theorem State.requestTx_rstate (s : State) (n : Nat) : (s.requestTx n).rstate = s.rstate := rfl
@[simp] theorem State.requestTx_tCmd (s : State) (n : Nat) : (s.requestTx n).tCmd = s.tCmd := rfl
@[simp] theorem State.requestTx_tAta (s : State) (n : Nat) : (s.requestTx n).tAta = s.tAta := rfl
@[simp] theorem State.requestTx_tLba (s : State) (n : Nat) : (s.requestTx n).tLba = s.tLba := rfl
@[simp] theorem State.requestTx_tCount (s : State) (n : Nat) : (s.requestTx n).tCount = s.tCount := rfl
@[simp] theorem State.requestTx_tIdx (s : State) (n : Nat) : (s.requestTx n).tIdx = s.tIdx := rfl
@[simp] theorem State.requestTx_rspValid (s : State) (n : Nat) : (s.requestTx n).rspValid = s.rspValid := rfl
@[simp] theorem State.requestTx_rspLen (s : State) (n : Nat) : (s.requestTx n).rspLen = s.rspLen := rfl
@[simp] theorem State.requestTx_outcome (s : State) (n : Nat) : (s.requestTx n).outcome = s.outcome := rfl
@[simp] theorem State.requestTx_failIdx (s : State) (n : Nat) : (s.requestTx n).failIdx = s.failIdx := rfl
@[simp] theorem State.requestTx_cstate (s : State) (n : Nat) : (s.requestTx n).cstate = s.cstate := rfl
@[simp] theorem State.requestTx_tag (s : State) (n : Nat) : (s.requestTx n).tag = s.tag := rfl
@[simp] theorem State.requestTx_dest (s : State) (n : Nat) : (s.requestTx n).dest = s.dest := rfl
@[simp] theorem State.requestTx_cSectors (s : State) (n : Nat) : (s.requestTx n).cSectors = s.cSectors := rfl
@[simp] theorem State.requestTx_opKind (s : State) (n : Nat) : (s.requestTx n).opKind = s.opKind := rfl
@[simp] theorem State.requestTx_opCount (s : State) (n : Nat) : (s.requestTx n).opCount = s.opCount := rfl
@[simp] theorem State.requestTx_strayCnt (s : State) (n : Nat) : (s.requestTx n).strayCnt = s.strayCnt := rfl
@[simp] theorem State.requestTx_cResult (s : State) (n : Nat) : (s.requestTx n).cResult = s.cResult := rfl
@[simp] theorem State.requestTx_cOutcome (s : State) (n : Nat) : (s.requestTx n).cOutcome = s.cOutcome := rfl
@[simp] theorem State.requestTx_cCode (s : State) (n : Nat) : (s.requestTx n).cCode = s.cCode := rfl
@[simp] theorem State.requestTx_rdata (s : State) (n : Nat) : (s.requestTx n).rdata = s.rdata := rfl
@[simp] theorem State.requestTx_cPrev (s : State) (n : Nat) : (s.requestTx n).cPrev = s.cPrev := rfl
@[simp] theorem State.requestTx_rx (s : State) (n : Nat) : (s.requestTx n).rx = s.rx := rfl
@[simp] theorem State.requestTx_inputs (s : State) (n : Nat) : (s.requestTx n).inputs = s.inputs := rfl
@[simp] theorem State.requestTx_reqNo (s : State) (n : Nat) : (s.requestTx n).reqNo = s.reqNo + 1 := rfl
@[simp] theorem State.requestTx_outputs (s : State) (n : Nat) :
    (s.requestTx n).outputs = s.outputs ++ [.txReq (s.tx.readRange 0 n) n s.cfg.txTimeout] := rfl
@[simp] theorem State.requestTx_prints (s : State) (n : Nat) : (s.requestTx n).prints = s.prints := rfl

/-! ### An input that stays at its port (R24) -/

@[simp] theorem State.hold_cfg (s : State) (i : Input) : (s.hold i).cfg = s.cfg := rfl
@[simp] theorem State.hold_tx (s : State) (i : Input) : (s.hold i).tx = s.tx := rfl
@[simp] theorem State.hold_idMajor (s : State) (i : Input) : (s.hold i).idMajor = s.idMajor := rfl
@[simp] theorem State.hold_idMinor (s : State) (i : Input) : (s.hold i).idMinor = s.idMinor := rfl
@[simp] theorem State.hold_idSectors (s : State) (i : Input) : (s.hold i).idSectors = s.idSectors := rfl
@[simp] theorem State.hold_rstate (s : State) (i : Input) : (s.hold i).rstate = s.rstate := rfl
@[simp] theorem State.hold_tCmd (s : State) (i : Input) : (s.hold i).tCmd = s.tCmd := rfl
@[simp] theorem State.hold_tAta (s : State) (i : Input) : (s.hold i).tAta = s.tAta := rfl
@[simp] theorem State.hold_tLba (s : State) (i : Input) : (s.hold i).tLba = s.tLba := rfl
@[simp] theorem State.hold_tCount (s : State) (i : Input) : (s.hold i).tCount = s.tCount := rfl
@[simp] theorem State.hold_tIdx (s : State) (i : Input) : (s.hold i).tIdx = s.tIdx := rfl
@[simp] theorem State.hold_rspValid (s : State) (i : Input) : (s.hold i).rspValid = s.rspValid := rfl
@[simp] theorem State.hold_rspLen (s : State) (i : Input) : (s.hold i).rspLen = s.rspLen := rfl
@[simp] theorem State.hold_outcome (s : State) (i : Input) : (s.hold i).outcome = s.outcome := rfl
@[simp] theorem State.hold_failIdx (s : State) (i : Input) : (s.hold i).failIdx = s.failIdx := rfl
@[simp] theorem State.hold_cstate (s : State) (i : Input) : (s.hold i).cstate = s.cstate := rfl
@[simp] theorem State.hold_tag (s : State) (i : Input) : (s.hold i).tag = s.tag := rfl
@[simp] theorem State.hold_dest (s : State) (i : Input) : (s.hold i).dest = s.dest := rfl
@[simp] theorem State.hold_cSectors (s : State) (i : Input) : (s.hold i).cSectors = s.cSectors := rfl
@[simp] theorem State.hold_opKind (s : State) (i : Input) : (s.hold i).opKind = s.opKind := rfl
@[simp] theorem State.hold_opCount (s : State) (i : Input) : (s.hold i).opCount = s.opCount := rfl
@[simp] theorem State.hold_strayCnt (s : State) (i : Input) : (s.hold i).strayCnt = s.strayCnt := rfl
@[simp] theorem State.hold_cResult (s : State) (i : Input) : (s.hold i).cResult = s.cResult := rfl
@[simp] theorem State.hold_cOutcome (s : State) (i : Input) : (s.hold i).cOutcome = s.cOutcome := rfl
@[simp] theorem State.hold_cCode (s : State) (i : Input) : (s.hold i).cCode = s.cCode := rfl
@[simp] theorem State.hold_rdata (s : State) (i : Input) : (s.hold i).rdata = s.rdata := rfl
@[simp] theorem State.hold_cPrev (s : State) (i : Input) : (s.hold i).cPrev = s.cPrev := rfl
@[simp] theorem State.hold_rx (s : State) (i : Input) : (s.hold i).rx = s.rx := rfl
@[simp] theorem State.hold_inputs (s : State) (i : Input) : (s.hold i).inputs = i :: s.inputs := rfl
@[simp] theorem State.hold_reqNo (s : State) (i : Input) : (s.hold i).reqNo = s.reqNo := rfl
@[simp] theorem State.hold_outputs (s : State) (i : Input) : (s.hold i).outputs = s.outputs := rfl
@[simp] theorem State.hold_prints (s : State) (i : Input) : (s.hold i).prints = s.prints := rfl

/-! ### `raise Drop` (R153) -/

@[simp] theorem State.drop_cfg (s : State) (c : RCode) : (s.drop c).cfg = s.cfg := rfl
@[simp] theorem State.drop_tx (s : State) (c : RCode) : (s.drop c).tx = s.tx := rfl
@[simp] theorem State.drop_idMajor (s : State) (c : RCode) : (s.drop c).idMajor = s.idMajor := rfl
@[simp] theorem State.drop_idMinor (s : State) (c : RCode) : (s.drop c).idMinor = s.idMinor := rfl
@[simp] theorem State.drop_idSectors (s : State) (c : RCode) : (s.drop c).idSectors = s.idSectors := rfl
@[simp] theorem State.drop_rstate (s : State) (c : RCode) : (s.drop c).rstate = .done := rfl
@[simp] theorem State.drop_tCmd (s : State) (c : RCode) : (s.drop c).tCmd = s.tCmd := rfl
@[simp] theorem State.drop_tAta (s : State) (c : RCode) : (s.drop c).tAta = s.tAta := rfl
@[simp] theorem State.drop_tLba (s : State) (c : RCode) : (s.drop c).tLba = s.tLba := rfl
@[simp] theorem State.drop_tCount (s : State) (c : RCode) : (s.drop c).tCount = s.tCount := rfl
@[simp] theorem State.drop_tIdx (s : State) (c : RCode) : (s.drop c).tIdx = s.tIdx := rfl
@[simp] theorem State.drop_rspValid (s : State) (c : RCode) : (s.drop c).rspValid = false := rfl
@[simp] theorem State.drop_rspLen (s : State) (c : RCode) : (s.drop c).rspLen = 0#18 := rfl
@[simp] theorem State.drop_outcome (s : State) (c : RCode) : (s.drop c).outcome = c := rfl
@[simp] theorem State.drop_failIdx (s : State) (c : RCode) : (s.drop c).failIdx = s.failIdx := rfl
@[simp] theorem State.drop_cstate (s : State) (c : RCode) : (s.drop c).cstate = s.cstate := rfl
@[simp] theorem State.drop_tag (s : State) (c : RCode) : (s.drop c).tag = s.tag := rfl
@[simp] theorem State.drop_dest (s : State) (c : RCode) : (s.drop c).dest = s.dest := rfl
@[simp] theorem State.drop_cSectors (s : State) (c : RCode) : (s.drop c).cSectors = s.cSectors := rfl
@[simp] theorem State.drop_opKind (s : State) (c : RCode) : (s.drop c).opKind = s.opKind := rfl
@[simp] theorem State.drop_opCount (s : State) (c : RCode) : (s.drop c).opCount = s.opCount := rfl
@[simp] theorem State.drop_strayCnt (s : State) (c : RCode) : (s.drop c).strayCnt = s.strayCnt := rfl
@[simp] theorem State.drop_cResult (s : State) (c : RCode) : (s.drop c).cResult = s.cResult := rfl
@[simp] theorem State.drop_cOutcome (s : State) (c : RCode) : (s.drop c).cOutcome = s.cOutcome := rfl
@[simp] theorem State.drop_cCode (s : State) (c : RCode) : (s.drop c).cCode = s.cCode := rfl
@[simp] theorem State.drop_rdata (s : State) (c : RCode) : (s.drop c).rdata = s.rdata := rfl
@[simp] theorem State.drop_cPrev (s : State) (c : RCode) : (s.drop c).cPrev = s.cPrev := rfl
@[simp] theorem State.drop_rx (s : State) (c : RCode) : (s.drop c).rx = s.rx := rfl
@[simp] theorem State.drop_inputs (s : State) (c : RCode) : (s.drop c).inputs = s.inputs := rfl
@[simp] theorem State.drop_reqNo (s : State) (c : RCode) : (s.drop c).reqNo = s.reqNo := rfl
@[simp] theorem State.drop_outputs (s : State) (c : RCode) : (s.drop c).outputs = s.outputs := rfl
@[simp] theorem State.drop_prints (s : State) (c : RCode) : (s.drop c).prints = s.prints := rfl

/-! ### `complete` (R146) -/

@[simp] theorem State.complete_cfg (s : State) (r : Bool) (c : CCode) (d : List Byte) :
    (s.complete r c d).cfg = s.cfg := rfl
@[simp] theorem State.complete_tx (s : State) (r : Bool) (c : CCode) (d : List Byte) :
    (s.complete r c d).tx = s.tx := rfl
@[simp] theorem State.complete_idMajor (s : State) (r : Bool) (c : CCode) (d : List Byte) :
    (s.complete r c d).idMajor = s.idMajor := rfl
@[simp] theorem State.complete_idMinor (s : State) (r : Bool) (c : CCode) (d : List Byte) :
    (s.complete r c d).idMinor = s.idMinor := rfl
@[simp] theorem State.complete_idSectors (s : State) (r : Bool) (c : CCode) (d : List Byte) :
    (s.complete r c d).idSectors = s.idSectors := rfl
@[simp] theorem State.complete_rstate (s : State) (r : Bool) (c : CCode) (d : List Byte) :
    (s.complete r c d).rstate = s.rstate := rfl
@[simp] theorem State.complete_tCmd (s : State) (r : Bool) (c : CCode) (d : List Byte) :
    (s.complete r c d).tCmd = s.tCmd := rfl
@[simp] theorem State.complete_tAta (s : State) (r : Bool) (c : CCode) (d : List Byte) :
    (s.complete r c d).tAta = s.tAta := rfl
@[simp] theorem State.complete_tLba (s : State) (r : Bool) (c : CCode) (d : List Byte) :
    (s.complete r c d).tLba = s.tLba := rfl
@[simp] theorem State.complete_tCount (s : State) (r : Bool) (c : CCode) (d : List Byte) :
    (s.complete r c d).tCount = s.tCount := rfl
@[simp] theorem State.complete_tIdx (s : State) (r : Bool) (c : CCode) (d : List Byte) :
    (s.complete r c d).tIdx = s.tIdx := rfl
@[simp] theorem State.complete_rspValid (s : State) (r : Bool) (c : CCode) (d : List Byte) :
    (s.complete r c d).rspValid = s.rspValid := rfl
@[simp] theorem State.complete_rspLen (s : State) (r : Bool) (c : CCode) (d : List Byte) :
    (s.complete r c d).rspLen = s.rspLen := rfl
@[simp] theorem State.complete_outcome (s : State) (r : Bool) (c : CCode) (d : List Byte) :
    (s.complete r c d).outcome = s.outcome := rfl
@[simp] theorem State.complete_failIdx (s : State) (r : Bool) (c : CCode) (d : List Byte) :
    (s.complete r c d).failIdx = s.failIdx := rfl
@[simp] theorem State.complete_cstate (s : State) (r : Bool) (c : CCode) (d : List Byte) :
    (s.complete r c d).cstate = if s.cstate = .awaitOp ∨ s.cstate = .txWait then .connected else s.cstate := rfl
@[simp] theorem State.complete_tag (s : State) (r : Bool) (c : CCode) (d : List Byte) :
    (s.complete r c d).tag = s.tag := rfl
@[simp] theorem State.complete_dest (s : State) (r : Bool) (c : CCode) (d : List Byte) :
    (s.complete r c d).dest = s.dest := rfl
@[simp] theorem State.complete_cSectors (s : State) (r : Bool) (c : CCode) (d : List Byte) :
    (s.complete r c d).cSectors = s.cSectors := rfl
@[simp] theorem State.complete_opKind (s : State) (r : Bool) (c : CCode) (d : List Byte) :
    (s.complete r c d).opKind = .none := rfl
@[simp] theorem State.complete_opCount (s : State) (r : Bool) (c : CCode) (d : List Byte) :
    (s.complete r c d).opCount = s.opCount := rfl
@[simp] theorem State.complete_strayCnt (s : State) (r : Bool) (c : CCode) (d : List Byte) :
    (s.complete r c d).strayCnt = 0 := rfl
@[simp] theorem State.complete_cResult (s : State) (r : Bool) (c : CCode) (d : List Byte) :
    (s.complete r c d).cResult = r := rfl
@[simp] theorem State.complete_cOutcome (s : State) (r : Bool) (c : CCode) (d : List Byte) :
    (s.complete r c d).cOutcome = c := rfl
@[simp] theorem State.complete_cCode (s : State) (r : Bool) (c : CCode) (d : List Byte) :
    (s.complete r c d).cCode = s.cCode := rfl
@[simp] theorem State.complete_rdata (s : State) (r : Bool) (c : CCode) (d : List Byte) :
    (s.complete r c d).rdata = if r then d else [] := rfl
@[simp] theorem State.complete_cPrev (s : State) (r : Bool) (c : CCode) (d : List Byte) :
    (s.complete r c d).cPrev = s.cPrev := rfl
@[simp] theorem State.complete_rx (s : State) (r : Bool) (c : CCode) (d : List Byte) :
    (s.complete r c d).rx = s.rx := rfl
@[simp] theorem State.complete_inputs (s : State) (r : Bool) (c : CCode) (d : List Byte) :
    (s.complete r c d).inputs = s.inputs := rfl
@[simp] theorem State.complete_reqNo (s : State) (r : Bool) (c : CCode) (d : List Byte) :
    (s.complete r c d).reqNo = s.reqNo := rfl
@[simp] theorem State.complete_outputs (s : State) (r : Bool) (c : CCode) (d : List Byte) :
    (s.complete r c d).outputs = s.outputs ++ [.done r c (if r then d else [])] := rfl
@[simp] theorem State.complete_prints (s : State) (r : Bool) (c : CCode) (d : List Byte) :
    (s.complete r c d).prints = s.prints := rfl

/-! ### The latches of the accepting step (R98) -/

@[simp] theorem State.latch_cfg (s : State) (b : List Byte) : (s.latch b).cfg = s.cfg := rfl
@[simp] theorem State.latch_tx (s : State) (b : List Byte) : (s.latch b).tx = s.tx := rfl
@[simp] theorem State.latch_idMajor (s : State) (b : List Byte) : (s.latch b).idMajor = s.idMajor := rfl
@[simp] theorem State.latch_idMinor (s : State) (b : List Byte) : (s.latch b).idMinor = s.idMinor := rfl
@[simp] theorem State.latch_idSectors (s : State) (b : List Byte) : (s.latch b).idSectors = s.idSectors := rfl
@[simp] theorem State.latch_rstate (s : State) (b : List Byte) : (s.latch b).rstate = s.rstate := rfl
@[simp] theorem State.latch_tCmd (s : State) (b : List Byte) : (s.latch b).tCmd = 0#8 := rfl
@[simp] theorem State.latch_tAta (s : State) (b : List Byte) : (s.latch b).tAta = 0#8 := rfl
@[simp] theorem State.latch_tLba (s : State) (b : List Byte) : (s.latch b).tLba = 0#24 := rfl
@[simp] theorem State.latch_tCount (s : State) (b : List Byte) : (s.latch b).tCount = 0#8 := rfl
@[simp] theorem State.latch_tIdx (s : State) (b : List Byte) : (s.latch b).tIdx = 0#9 := rfl
@[simp] theorem State.latch_rspValid (s : State) (b : List Byte) : (s.latch b).rspValid = false := rfl
@[simp] theorem State.latch_rspLen (s : State) (b : List Byte) : (s.latch b).rspLen = 0#18 := rfl
@[simp] theorem State.latch_outcome (s : State) (b : List Byte) : (s.latch b).outcome = .none := rfl
@[simp] theorem State.latch_failIdx (s : State) (b : List Byte) : (s.latch b).failIdx = 0#9 := rfl
@[simp] theorem State.latch_cstate (s : State) (b : List Byte) : (s.latch b).cstate = s.cstate := rfl
@[simp] theorem State.latch_tag (s : State) (b : List Byte) : (s.latch b).tag = s.tag := rfl
@[simp] theorem State.latch_dest (s : State) (b : List Byte) : (s.latch b).dest = s.dest := rfl
@[simp] theorem State.latch_cSectors (s : State) (b : List Byte) : (s.latch b).cSectors = s.cSectors := rfl
@[simp] theorem State.latch_opKind (s : State) (b : List Byte) : (s.latch b).opKind = s.opKind := rfl
@[simp] theorem State.latch_opCount (s : State) (b : List Byte) : (s.latch b).opCount = s.opCount := rfl
@[simp] theorem State.latch_strayCnt (s : State) (b : List Byte) : (s.latch b).strayCnt = s.strayCnt := rfl
@[simp] theorem State.latch_cResult (s : State) (b : List Byte) : (s.latch b).cResult = s.cResult := rfl
@[simp] theorem State.latch_cOutcome (s : State) (b : List Byte) : (s.latch b).cOutcome = s.cOutcome := rfl
@[simp] theorem State.latch_cCode (s : State) (b : List Byte) : (s.latch b).cCode = s.cCode := rfl
@[simp] theorem State.latch_rdata (s : State) (b : List Byte) : (s.latch b).rdata = s.rdata := rfl
@[simp] theorem State.latch_cPrev (s : State) (b : List Byte) : (s.latch b).cPrev = s.cPrev := rfl
@[simp] theorem State.latch_rx (s : State) (b : List Byte) : (s.latch b).rx = b := rfl
@[simp] theorem State.latch_inputs (s : State) (b : List Byte) : (s.latch b).inputs = s.inputs := rfl
@[simp] theorem State.latch_reqNo (s : State) (b : List Byte) : (s.latch b).reqNo = s.reqNo := rfl
@[simp] theorem State.latch_outputs (s : State) (b : List Byte) : (s.latch b).outputs = s.outputs := rfl
@[simp] theorem State.latch_prints (s : State) (b : List Byte) : (s.latch b).prints = s.prints := rfl

/-! ### The response's transmit request (R118) -/

@[simp] theorem State.transmit_cfg (s : State) : s.transmit.cfg = s.cfg := rfl
@[simp] theorem State.transmit_tx (s : State) : s.transmit.tx = s.tx := rfl
@[simp] theorem State.transmit_idMajor (s : State) : s.transmit.idMajor = s.idMajor := rfl
@[simp] theorem State.transmit_idMinor (s : State) : s.transmit.idMinor = s.idMinor := rfl
@[simp] theorem State.transmit_idSectors (s : State) : s.transmit.idSectors = s.idSectors := rfl
@[simp] theorem State.transmit_rstate (s : State) : s.transmit.rstate = .txWait := rfl
@[simp] theorem State.transmit_tCmd (s : State) : s.transmit.tCmd = s.tCmd := rfl
@[simp] theorem State.transmit_tAta (s : State) : s.transmit.tAta = s.tAta := rfl
@[simp] theorem State.transmit_tLba (s : State) : s.transmit.tLba = s.tLba := rfl
@[simp] theorem State.transmit_tCount (s : State) : s.transmit.tCount = s.tCount := rfl
@[simp] theorem State.transmit_tIdx (s : State) : s.transmit.tIdx = s.tIdx := rfl
@[simp] theorem State.transmit_rspValid (s : State) : s.transmit.rspValid = s.rspValid := rfl
@[simp] theorem State.transmit_rspLen (s : State) : s.transmit.rspLen = s.rspLen := rfl
@[simp] theorem State.transmit_outcome (s : State) : s.transmit.outcome = s.outcome := rfl
@[simp] theorem State.transmit_failIdx (s : State) : s.transmit.failIdx = s.failIdx := rfl
@[simp] theorem State.transmit_cstate (s : State) : s.transmit.cstate = s.cstate := rfl
@[simp] theorem State.transmit_tag (s : State) : s.transmit.tag = s.tag := rfl
@[simp] theorem State.transmit_dest (s : State) : s.transmit.dest = s.dest := rfl
@[simp] theorem State.transmit_cSectors (s : State) : s.transmit.cSectors = s.cSectors := rfl
@[simp] theorem State.transmit_opKind (s : State) : s.transmit.opKind = s.opKind := rfl
@[simp] theorem State.transmit_opCount (s : State) : s.transmit.opCount = s.opCount := rfl
@[simp] theorem State.transmit_strayCnt (s : State) : s.transmit.strayCnt = s.strayCnt := rfl
@[simp] theorem State.transmit_cResult (s : State) : s.transmit.cResult = s.cResult := rfl
@[simp] theorem State.transmit_cOutcome (s : State) : s.transmit.cOutcome = s.cOutcome := rfl
@[simp] theorem State.transmit_cCode (s : State) : s.transmit.cCode = s.cCode := rfl
@[simp] theorem State.transmit_rdata (s : State) : s.transmit.rdata = s.rdata := rfl
@[simp] theorem State.transmit_cPrev (s : State) : s.transmit.cPrev = s.cPrev := rfl
@[simp] theorem State.transmit_rx (s : State) : s.transmit.rx = s.rx := rfl
@[simp] theorem State.transmit_inputs (s : State) : s.transmit.inputs = s.inputs := rfl
@[simp] theorem State.transmit_reqNo (s : State) : s.transmit.reqNo = s.reqNo + 1 := rfl
@[simp] theorem State.transmit_outputs (s : State) :
    s.transmit.outputs = s.outputs ++ [.txReq (s.tx.readRange 0 s.rspLen.toNat) s.rspLen.toNat s.cfg.txTimeout] := rfl
@[simp] theorem State.transmit_prints (s : State) : s.transmit.prints = s.prints := rfl

/-! ### The final clear (R120) -/

@[simp] theorem State.finalClear_cfg (s : State) : s.finalClear.cfg = s.cfg := rfl
@[simp] theorem State.finalClear_tx (s : State) : s.finalClear.tx = Memory.empty := rfl
@[simp] theorem State.finalClear_idMajor (s : State) : s.finalClear.idMajor = s.idMajor := rfl
@[simp] theorem State.finalClear_idMinor (s : State) : s.finalClear.idMinor = s.idMinor := rfl
@[simp] theorem State.finalClear_idSectors (s : State) : s.finalClear.idSectors = s.idSectors := rfl
@[simp] theorem State.finalClear_rstate (s : State) : s.finalClear.rstate = .idle := rfl
@[simp] theorem State.finalClear_tCmd (s : State) : s.finalClear.tCmd = s.tCmd := rfl
@[simp] theorem State.finalClear_tAta (s : State) : s.finalClear.tAta = s.tAta := rfl
@[simp] theorem State.finalClear_tLba (s : State) : s.finalClear.tLba = s.tLba := rfl
@[simp] theorem State.finalClear_tCount (s : State) : s.finalClear.tCount = s.tCount := rfl
@[simp] theorem State.finalClear_tIdx (s : State) : s.finalClear.tIdx = s.tIdx := rfl
@[simp] theorem State.finalClear_rspValid (s : State) : s.finalClear.rspValid = s.rspValid := rfl
@[simp] theorem State.finalClear_rspLen (s : State) : s.finalClear.rspLen = s.rspLen := rfl
@[simp] theorem State.finalClear_outcome (s : State) : s.finalClear.outcome = s.outcome := rfl
@[simp] theorem State.finalClear_failIdx (s : State) : s.finalClear.failIdx = s.failIdx := rfl
@[simp] theorem State.finalClear_cstate (s : State) : s.finalClear.cstate = s.cstate := rfl
@[simp] theorem State.finalClear_tag (s : State) : s.finalClear.tag = s.tag := rfl
@[simp] theorem State.finalClear_dest (s : State) : s.finalClear.dest = s.dest := rfl
@[simp] theorem State.finalClear_cSectors (s : State) : s.finalClear.cSectors = s.cSectors := rfl
@[simp] theorem State.finalClear_opKind (s : State) : s.finalClear.opKind = s.opKind := rfl
@[simp] theorem State.finalClear_opCount (s : State) : s.finalClear.opCount = s.opCount := rfl
@[simp] theorem State.finalClear_strayCnt (s : State) : s.finalClear.strayCnt = s.strayCnt := rfl
@[simp] theorem State.finalClear_cResult (s : State) : s.finalClear.cResult = s.cResult := rfl
@[simp] theorem State.finalClear_cOutcome (s : State) : s.finalClear.cOutcome = s.cOutcome := rfl
@[simp] theorem State.finalClear_cCode (s : State) : s.finalClear.cCode = s.cCode := rfl
@[simp] theorem State.finalClear_rdata (s : State) : s.finalClear.rdata = s.rdata := rfl
@[simp] theorem State.finalClear_cPrev (s : State) : s.finalClear.cPrev = s.cPrev := rfl
@[simp] theorem State.finalClear_rx (s : State) : s.finalClear.rx = [] := rfl
@[simp] theorem State.finalClear_inputs (s : State) : s.finalClear.inputs = s.inputs := rfl
@[simp] theorem State.finalClear_reqNo (s : State) : s.finalClear.reqNo = s.reqNo := rfl
@[simp] theorem State.finalClear_outputs (s : State) : s.finalClear.outputs = s.outputs := rfl
@[simp] theorem State.finalClear_prints (s : State) : s.finalClear.prints = s.prints := rfl

end Sys2Proof.Machine
end

