-- ==== Sys2Proof/Laws/Step.lean ====
section
/-! SUPPORT. What one step can be, said once: the final clear, the taking of the first accepted input, or a rest. Cite
these instead of unfolding `step`. -/

namespace Sys2Proof.Machine

open Sys2Proof

theorem firstAccepted_split {p : Input → Bool} {pre rest : List Input} {i : Input} (hp : ∀ q ∈ pre, p q = false)
    (hi : p i = true) : firstAccepted p (pre ++ i :: rest) = some (i, pre ++ rest) := by
  induction pre with
  | nil => simp [firstAccepted, hi]
  | cons q pre ih =>
    simp [firstAccepted, hp q (by simp), ih fun r hr => hp r (by simp [hr])]

theorem firstAccepted_none {p : Input → Bool} {is : List Input} (hp : ∀ q ∈ is, p q = false) :
    firstAccepted p is = none := by
  induction is with
  | nil => rfl
  | cons q is ih => simp [firstAccepted, hp q (by simp), ih fun r hr => hp r (by simp [hr])]

/-- The input that is found is accepted, and nothing before it is. -/
theorem firstAccepted_cases {p : Input → Bool} {is rest : List Input} {i : Input}
    (h : firstAccepted p is = some (i, rest)) :
    p i = true ∧ ∃ pre post, is = pre ++ i :: post ∧ rest = pre ++ post ∧ ∀ q ∈ pre, p q = false := by
  induction is generalizing rest with
  | nil => simp [firstAccepted] at h
  | cons q is ih =>
    by_cases hq : p q = true
    · simp only [firstAccepted, hq, if_true, Option.some.injEq, Prod.mk.injEq] at h
      obtain ⟨rfl, rfl⟩ := h
      exact ⟨hq, [], is, rfl, rfl, by simp⟩
    · simp only [firstAccepted, hq, Bool.false_eq_true, if_false, Option.map_eq_some_iff, Prod.mk.injEq] at h
      obtain ⟨⟨j, r⟩, hr, rfl, rfl⟩ := h
      obtain ⟨hi, pre, post, rfl, rfl, hpre⟩ := ih hr
      refine ⟨hi, q :: pre, post, rfl, rfl, fun r hr => ?_⟩
      rcases List.mem_cons.mp hr with rfl | hr
      · simpa using hq
      · exact hpre r hr

/-- Outside `R_DONE` the step takes the first accepted input. -/
theorem step_takes {s : State} {pre rest : List Input} {i : Input} (hd : s.clearDue = false)
    (hs : s.inputs = pre ++ i :: rest) (hp : ∀ q ∈ pre, s.accepts q = false) (hi : s.accepts i = true) :
    step s = State.take i { s with inputs := pre ++ rest } := by
  simp only [step, State.advance, hd, Bool.false_and, Bool.false_eq_true, if_false, State.takeNext, hs,
    firstAccepted_split hp hi]

/-- Outside `R_DONE` the step takes an accepted input at the head of the ports. -/
theorem step_takes_head {s : State} {rest : List Input} {i : Input} (hd : s.clearDue = false)
    (hs : s.inputs = i :: rest) (hi : s.accepts i = true) : step s = State.take i { s with inputs := rest } :=
  step_takes (pre := []) hd hs (by simp) hi

/-- `RESET` at the head of the ports is taken in every state (R155, R156). -/
theorem step_reset {s : State} {rest : List Input} (hs : s.inputs = .reset :: rest) :
    step s = toOutcome { s with inputs := rest }.doReset := by
  simp [step, State.advance, State.resetNow, hs, State.takeNext, firstAccepted, State.accepts, State.take]

/-- From `R_DONE` the step is the final clear, unless `RESET` arrives (R120). -/
theorem step_clears {s : State} (hd : s.clearDue = true) (hr : s.inputs.head? ≠ some .reset) :
    step s = .next s.finalClear := by
  simp [step, State.advance, hd, State.resetNow, hr]

/-- With no accepted input the block rests (R166). -/
theorem step_rests {s : State} (hd : s.clearDue = false) (hp : ∀ q ∈ s.inputs, s.accepts q = false) :
    step s = .next s := by
  simp [step, State.advance, hd, State.takeNext, firstAccepted_none hp]

/-- Everything a step can be. -/
theorem step_cases (s : State) :
    (s.clearDue = true ∧ s.inputs.head? ≠ some .reset ∧ step s = .next s.finalClear) ∨
    ((∀ q ∈ s.inputs, s.accepts q = false) ∧ step s = .next s) ∨
    ∃ i rest, s.accepts i = true ∧ (s.clearDue = true → i = .reset) ∧ i ∈ s.inputs ∧
      step s = State.take i { s with inputs := rest } := by
  by_cases hc : s.clearDue = true ∧ s.inputs.head? ≠ some .reset
  · exact .inl ⟨hc.1, hc.2, step_clears hc.1 hc.2⟩
  · have ha : step s = s.takeNext := by
      have : (s.clearDue && !s.resetNow) = false := by
        rw [Bool.eq_false_iff]
        intro h
        apply hc
        simpa [State.resetNow] using h
      simp [step, State.advance, this]
    cases hf : firstAccepted s.accepts s.inputs with
    | none =>
      refine .inr (.inl ⟨?_, by rw [ha, State.takeNext, hf]⟩)
      intro q hq
      by_contra hn
      have hn : s.accepts q = true := by simpa using hn
      obtain ⟨pre, post, he⟩ := List.append_of_mem hq
      revert hf
      rw [he]
      clear he hq ha hc
      induction pre with
      | nil => simp [firstAccepted, hn]
      | cons r pre ih => by_cases hr : s.accepts r = true <;> simp_all [firstAccepted]
    | some ir =>
      obtain ⟨i, rest⟩ := ir
      obtain ⟨hi, pre, post, he, hr, hpre⟩ := firstAccepted_cases hf
      refine .inr (.inr ⟨i, rest, hi, fun hd => ?_, by simp [he], by rw [ha, State.takeNext, hf]⟩)
      have hh : s.inputs.head? = some .reset := by
        by_contra hn; exact hc ⟨hd, hn⟩
      cases pre with
      | nil => simpa [he] using hh
      | cons q pre =>
        have hq : q = .reset := by simpa [he] using hh
        have := hpre q (by simp)
        simp [hq, State.accepts] at this

end Sys2Proof.Machine
end

