-- ==== Sys2Proof/Tests/Slice0.lean ====
section
/-! SUPPORT. Our own tests. Expected values come from spec/95_test_vectors.md (the vector is named in the comment), never
from the model. Each machine test is one step on a small instance. After them, a witness for the hypotheses of every
statement of Certificates/Slice0/Obligations.lean that has some. -/

namespace Sys2Proof.Tests

open Sys2Proof Sys2Proof.Machine

/-! ### Helpers -/

/-- The configuration of 95_test_vectors.md section 0 with `MAX_SECTORS` = 8 (as V-R7) and no announce. -/
def smallConfig : Config := { Config.standard with maxSectors := 8, announceOnInit := false }

/-- A responder after reset, ready. -/
def rsp : State := State.resetOf smallConfig

/-- A responder in the middle of a transaction with two sectors. -/
def rspIn (r : RState) : State := { rsp with rstate := r, tCount := 2#8, tLba := 5#24 }

/-- An initiator after reset. -/
def ini : State := State.resetOf { smallConfig with role := .initiator }

/-- An initiator after V-K4: connected, `TAG` = 1. -/
def iniConnected : State := { ini with cstate := .connected, tag := 1#32, cOutcome := .bound }

/-- An initiator awaiting the response to its request with `TAG` = 2. -/
def iniAwaits (k : OpKind) (count : Byte) : State :=
  { iniConnected with
    cstate := if k = .query then .awaitQuery else .awaitOp
    tag := 2#32, opKind := k, opCount := count }

/-- An initiator whose request is being transmitted. -/
def iniSends (k : OpKind) : State := { iniConnected with cstate := .txWait, cPrev := .connected, tag := 2#32, opKind := k }

/-- The state `s` with these inputs at its ports. -/
def offered (s : State) (is : List Input) : State := { s with inputs := is }

/-- The next state, `s` itself where there is none. -/
def after (s : State) : State :=
  match step s with
  | .next t    => t
  | .fault _   => s
  | .refused _ => s

/-- One step completes in a state of which `p` holds. -/
def goesTo (s : State) (p : State → Bool) : Bool :=
  match step s with
  | .next t    => p t
  | .fault _   => false
  | .refused _ => false

/-- A step that completes goes to `after`. -/
theorem step_eq_after {s : State} {p : State → Bool} (h : goesTo s p = true) : step s = .next (after s) := by
  unfold goesTo at h; unfold after
  cases hs : step s <;> simp_all

/-- The invariant as a Boolean, its parts decided one by one. -/
def invHolds (s : State) : Bool :=
  decide s.cfg.wf && decide s.TxOk && decide s.IdentityOk &&
    (match s.cfg.role with
     | .responder => decide s.ResponderOk
     | .initiator => decide s.InitiatorOk)

theorem inv_of_invHolds {s : State} (h : invHolds s = true) : s.Inv := by
  unfold invHolds at h
  cases hr : s.cfg.role <;> simp only [hr, Bool.and_eq_true, decide_eq_true_eq] at h
  · exact ⟨h.1.1.1, h.1.1.2, h.1.2, fun _ => h.2, fun hi => by rw [hr] at hi; cases hi⟩
  · exact ⟨h.1.1.1, h.1.1.2, h.1.2, (fun hi => by rw [hr] at hi; cases hi), fun _ => h.2⟩

/-- `P(x)`: 512 bytes of `x`. -/
def pSec (x : Byte) : Sector := Vector.replicate 512 x

/-- `P(x)` as bytes. -/
def pBytes (x : Byte) : List Byte := List.replicate 512 x

/-- `QREQ` of 95_test_vectors.md section 0. -/
def qreq : List Byte :=
  [0xFF#8, 0xFF#8, 0xFF#8, 0xFF#8, 0xFF#8, 0xFF#8, 0x02#8, 0x00#8, 0x00#8, 0x00#8, 0x00#8, 0xAA#8, 0x88#8, 0xA2#8,
   0x10#8, 0x00#8, 0xFF#8, 0xFF#8, 0xFF#8, 0x01#8, 0xDE#8, 0xAD#8, 0xBE#8, 0xEF#8,
   0x00#8, 0x00#8, 0x00#8, 0x00#8, 0x00#8, 0x00#8, 0x00#8, 0x00#8]

/-- `IREQ(c, n, lba0 lba1 lba2)` of 95_test_vectors.md section 0. -/
def ireq (c n lba0 lba1 lba2 : Byte) : List Byte :=
  [0x00#8, 0x00#8, 0x00#8, 0x00#8, 0x00#8, 0x00#8, 0x02#8, 0x00#8, 0x00#8, 0x00#8, 0x00#8, 0xAA#8, 0x88#8, 0xA2#8,
   0x10#8, 0x00#8, 0x00#8, 0x01#8, 0x02#8, 0x00#8, 0xDE#8, 0xAD#8, 0xBE#8, 0xEF#8,
   0x00#8, 0x00#8, n, c, lba0, lba1, lba2, 0x00#8, 0x00#8, 0x00#8, 0x00#8, 0x00#8]

/-- `QRSP(00 00 00 t)` of 95_test_vectors.md section 2.8, with byte 14 as given. -/
def qrsp (byte14 t : Byte) : List Byte :=
  [0x00#8, 0x00#8, 0x00#8, 0x00#8, 0x00#8, 0x00#8, 0x00#8, 0x00#8, 0x00#8, 0x00#8, 0x00#8, 0x00#8, 0x88#8, 0xA2#8,
   byte14, 0x00#8, 0x00#8, 0x01#8, 0x02#8, 0x01#8, 0x00#8, 0x00#8, 0x00#8, t,
   0x00#8, 0x10#8, 0x00#8, 0x01#8, 0x02#8, 0x10#8, 0x00#8, 0x00#8]

/-- The 36-byte Issue reply with tag 00 00 00 t and the status byte given (95_test_vectors.md P3), then `data`. -/
def irsp (status t : Byte) (data : List Byte) : List Byte :=
  [0x00#8, 0x00#8, 0x00#8, 0x00#8, 0x00#8, 0x00#8, 0x00#8, 0x00#8, 0x00#8, 0x00#8, 0x00#8, 0x00#8, 0x88#8, 0xA2#8,
   0x18#8, 0x00#8, 0x00#8, 0x01#8, 0x02#8, 0x00#8, 0x00#8, 0x00#8, 0x00#8, t,
   0x00#8, 0x00#8, 0x00#8, status, 0x00#8, 0x00#8, 0x00#8, 0x00#8, 0x00#8, 0x00#8, 0x00#8, 0x00#8] ++ data

/-- The header of `IREQ`. -/
def ireqHeader : Header :=
  { dst := ⟨0x00#8, 0x00#8, 0x00#8, 0x00#8, 0x00#8, 0x00#8⟩, src := ⟨0x02#8, 0x00#8, 0x00#8, 0x00#8, 0x00#8, 0xAA#8⟩
    etype := 0x88A2#16, ver := 1#4, flagError := false, flagsRsvd := 0#2, error := 0x00#8
    major := 0x0001#16, minor := 0x02#8, tag := 0xDEADBEEF#32 }

/-- The header of `QREQ`. -/
def qreqHeader : Header :=
  { ireqHeader with
    dst := ⟨0xFF#8, 0xFF#8, 0xFF#8, 0xFF#8, 0xFF#8, 0xFF#8⟩, major := 0xFFFF#16, minor := 0xFF#8 }

/-- The header of `QRSP` and of the Issue replies, with their tag. -/
def rspHeader (tag : BitVec 32) : Header :=
  { ireqHeader with src := ⟨0x00#8, 0x00#8, 0x00#8, 0x00#8, 0x00#8, 0x00#8⟩, tag := tag }

/-- An Issue sub-header with a count and an LBA. -/
def subOf (count : Byte) (lba : BitVec 24) : IssueSub :=
  { aflags := 0x00#8, errFeature := 0x00#8, sectorCount := count, lba := lba
    lba3 := 0x00#8, lba4 := 0x00#8, lba5 := 0x00#8, rsvd0 := 0x00#8, rsvd1 := 0x00#8 }

/-! ### WellFormed: each check refuses an ill-formed term -/

theorem test_wf_short_query_tail : (Instr.queryConfig qreqHeader (.short (zeros 8))).wellFormed = false := by decide
theorem test_wf_short_query_response : (Instr.queryResponse qreqHeader (.short (zeros 8))).wellFormed = false := by decide
theorem test_wf_short_issue_response : (Instr.ataResponse ireqHeader (.short (zeros 12))).wellFormed = false := by decide
theorem test_wf_ata_command :
    ∀ c ∈ [0xEC#8, 0x20#8, 0x30#8], (Instr.ataUnsupported ireqHeader c (subOf 1#8 0#24) []).wellFormed = false := by decide
theorem test_wf_aoe_command :
    ∀ c ∈ [0x00#8, 0x01#8], (Instr.aoeUnsupported ireqHeader c []).wellFormed = false := by decide

/-! ### Decoding: words written out from the tables of 30_encoding.md -/

theorem test_decode_query_config :
    decode qreq = .ok (.queryConfig qreqHeader (.full ⟨0#16, 0#16, 0#8, 0#4, 0#4, 0#16⟩ [])) := by rfl
theorem test_decode_ata_identify :
    decode (ireq 0xEC#8 0xFF#8 0x12#8 0x34#8 0x56#8) = .ok (.ataIdentify ireqHeader (subOf 0xFF#8 0x563412#24) []) := by rfl
theorem test_decode_ata_read :
    decode (ireq 0x20#8 0x04#8 0x64#8 0x00#8 0x00#8) = .ok (.ataReadRetry ireqHeader (subOf 0x04#8 100#24) []) := by rfl
theorem test_decode_ata_write :
    decode (ireq 0x30#8 0x02#8 0x05#8 0x00#8 0x00#8 ++ [0xAA#8])
      = .ok (.ataWriteRetry ireqHeader (subOf 0x02#8 5#24) [0xAA#8]) :=
  by rfl
theorem test_decode_ata_unsupported :
    decode (ireq 0x24#8 0x01#8 0x00#8 0x00#8 0x00#8) = .ok (.ataUnsupported ireqHeader 0x24#8 (subOf 0x01#8 0#24) []) := by rfl
theorem test_decode_aoe_unsupported :
    decode (qreq.take 19 ++ [0x02#8, 0xDE#8, 0xAD#8, 0xBE#8, 0xEF#8]) = .ok (.aoeUnsupported qreqHeader 0x02#8 []) := by rfl
theorem test_decode_query_response :
    decode (qrsp 0x18#8 0x01#8)
      = .ok (.queryResponse (rspHeader 1#32) (.full ⟨0x0010#16, 0x0001#16, 0x02#8, 1#4, 0#4, 0#16⟩ [])) := by
  rfl
theorem test_decode_ata_response :
    decode (irsp 0x40#8 0x02#8 [0x11#8]) = .ok (.ataResponse (rspHeader 2#32) (.full 0x40#8 (subOf 0#8 0#24) [0x11#8])) := by rfl

/-- V-D2 and V-R6: frames too short for a form. -/
theorem test_decode_short :
    decode (qreq.take 23) = .error .shortFrame ∧
    decode ((ireq 0x20#8 0x01#8 0#8 0#8 0#8).take 30) = .error (.shortIssue ireqHeader) := ⟨by rfl, by rfl⟩

/-- The constructor a decoded table word has, by its place in the table. -/
def rowOf : Option Instr → Nat
  | some (.queryConfig _ _)        => 1
  | some (.ataIdentify _ _ _)      => 2
  | some (.ataReadRetry _ _ _)     => 3
  | some (.ataWriteRetry _ _ _)    => 4
  | some (.ataUnsupported _ _ _ _) => 5
  | some (.aoeUnsupported _ _ _)   => 6
  | some (.queryResponse _ _)      => 7
  | some (.ataResponse _ _)        => 8
  | none                           => 0

/-- A word of each row of spec/opcode_table.json, in table order (for AOE_UNSUPPORTED one that no earlier row takes). -/
theorem test_table_words :
    [0x000100, 0x0000EC, 0x000020, 0x000030, 0x000000, 0x000200, 0x080100, 0x080000].map
      (fun w => rowOf (decodeTableWord 24 w)) = [1, 2, 3, 4, 5, 6, 7, 8] := by decide

/-! ### The codec: vectors V-C -/

/-- V-C11, V-C12: `i.lba` little-endian, bytes 31 to 33 not read. -/
theorem test_codec_lba :
    ((Buffer.rx (ireq 0x20#8 0x04#8 0x64#8 0x00#8 0x00#8)).getILba.toOption = some 100#24) ∧
    ((Buffer.rx (ireq 0x20#8 0x04#8 0xFF#8 0xFF#8 0xFF#8)).getILba.toOption = some 0xFFFFFF#24) := by decide

/-- V-C16: `id.capacity` of 1000000. -/
theorem test_codec_capacity :
    (rsp.setIdCapacity 1000000#64).toOption.map (fun s => s.tx.readRange 236 8)
      = some [0x40#8, 0x42#8, 0x0F#8, 0x00#8, 0x00#8, 0x00#8, 0x00#8, 0x00#8] := by decide

/-! ### One step: the responder -/

/-- V-Q1. -/
theorem test_query_config :
    goesTo (offered rsp [.frame qreq]) (fun t => decide (t.outputs = [.txReq
      [0x02#8, 0x00#8, 0x00#8, 0x00#8, 0x00#8, 0xAA#8, 0x00#8, 0x00#8, 0x00#8, 0x00#8, 0x00#8, 0x00#8, 0x88#8, 0xA2#8,
       0x18#8, 0x00#8, 0x00#8, 0x01#8, 0x02#8, 0x01#8, 0xDE#8, 0xAD#8, 0xBE#8, 0xEF#8,
       0x00#8, 0x10#8, 0x00#8, 0x01#8, 0x02#8, 0x10#8, 0x00#8, 0x00#8] 32 0])) = true := by decide +kernel

/-- V-Q2: a query of 24 bytes is answered alike. -/
theorem test_query_config_24_bytes :
    goesTo (offered rsp [.frame (qreq.take 24)]) (fun t => t.rspLen == 32#18) = true := by decide +kernel

/-- V-I1: status 0x40, `le64(1000000)` in bytes 236 to 243, length 548. -/
theorem test_ata_identify :
    goesTo (offered rsp [.frame (ireq 0xEC#8 0x01#8 0#8 0#8 0#8)]) (fun t => t.rspLen == 548#18 && t.tx.read 27 == 0x40#8 &&
      t.tx.readRange 236 8 == [0x40#8, 0x42#8, 0x0F#8, 0#8, 0#8, 0#8, 0#8, 0#8]) = true := by decide +kernel

/-- V-R1: the first storage read. -/
theorem test_ata_read :
    goesTo (offered rsp [.frame (ireq 0x20#8 0x04#8 0x64#8 0#8 0#8)]) (fun t => t.outputs == [.sread 100]) = true := by
  decide +kernel

/-- V-R4: no wrap from the last 24-bit sector. -/
theorem test_ata_read_no_wrap :
    goesTo (offered { rspIn .sreadWait with tLba := 0xFFFFFF#24 } [.readAnswer 0 true (pSec 0#8)])
      (fun t => t.outputs == [.sread 16777216]) = true := by decide +kernel

/-- V-W1: the first storage write. -/
theorem test_ata_write :
    goesTo (offered rsp [.frame (ireq 0x30#8 0x02#8 0x05#8 0#8 0#8 ++ pBytes 0xAA#8 ++ pBytes 0x55#8)])
      (fun t => match t.outputs with
        | [.swrite lba d] => lba == 5 && d.toList.getD 511 0#8 == 0xAA#8
        | _ => false) = true := by decide +kernel

/-- V-W2: the frame without its last sector. -/
theorem test_ata_write_short :
    goesTo (offered rsp [.frame (ireq 0x30#8 0x02#8 0x05#8 0#8 0#8 ++ pBytes 0xAA#8)])
      (fun t => t.outcome.code == 0x23#8 && t.outputs == []) = true := by decide +kernel

/-- V-R8. -/
theorem test_ata_unsupported :
    goesTo (offered rsp [.frame (ireq 0x24#8 0x01#8 0#8 0#8 0#8)])
      (fun t => t.outcome.code == 0x21#8 && t.outputs == []) = true := by decide +kernel

/-- V-D17. -/
theorem test_aoe_unsupported :
    goesTo (offered rsp [.frame (qreq.take 19 ++ [0x02#8, 0xDE#8, 0xAD#8, 0xBE#8, 0xEF#8])])
      (fun t => t.outcome.code == 0x20#8 && t.outputs == []) = true := by decide +kernel

/-- V-R2: the second storage read fails. -/
theorem test_read_failure :
    goesTo (offered { rspIn .sreadWait with tIdx := 1#9 } [.readAnswer 0 false (pSec 0xEE#8)])
      (fun t => t.outcome.code == 0x30#8 && t.failIdx == 1#9 && t.tx.read 27 == 0x01#8 && t.tx.read 548 == 0xEE#8 &&
        t.outputs == []) = true := by decide +kernel

/-- V-A1: the announce. -/
theorem test_announce :
    goesTo (offered { rsp with cfg := Config.standard } [.reset]) (fun t => decide (t.outputs = [.txReq
      [0xFF#8, 0xFF#8, 0xFF#8, 0xFF#8, 0xFF#8, 0xFF#8, 0x00#8, 0x00#8, 0x00#8, 0x00#8, 0x00#8, 0x00#8, 0x88#8, 0xA2#8,
       0x10#8, 0x00#8, 0xFF#8, 0xFF#8, 0xFF#8, 0x01#8, 0x00#8, 0x00#8, 0x00#8, 0x00#8,
       0x00#8, 0x00#8, 0x00#8, 0x00#8, 0x00#8, 0x00#8, 0x00#8, 0x00#8] 32 0])) = true := by decide +kernel

/-! ### One step: the initiator -/

/-- V-K2. -/
theorem test_not_connected :
    goesTo (offered ini [.host (.read 0 1)])
      (fun t => t.outputs == [.done false .notConnected []] && t.tag == 0#32) = true := by decide +kernel

/-- V-K3, its request. -/
theorem test_connect :
    goesTo (offered ini [.host .connect]) (fun t => t.tag == 1#32 && decide (t.outputs = [.txReq
      [0xFF#8, 0xFF#8, 0xFF#8, 0xFF#8, 0xFF#8, 0xFF#8, 0x00#8, 0x00#8, 0x00#8, 0x00#8, 0x00#8, 0x00#8, 0x88#8, 0xA2#8,
       0x10#8, 0x00#8, 0xFF#8, 0xFF#8, 0xFF#8, 0x01#8, 0x00#8, 0x00#8, 0x00#8, 0x01#8,
       0x00#8, 0x00#8, 0x00#8, 0x00#8, 0x00#8, 0x00#8, 0x00#8, 0x00#8] 32 0])) = true := by decide +kernel

/-- V-K12, its request. -/
theorem test_read_command :
    goesTo (offered iniConnected [.host (.read 5 2)]) (fun t => t.tag == 2#32 && decide (t.outputs = [.txReq
      [0x00#8, 0x00#8, 0x00#8, 0x00#8, 0x00#8, 0x00#8, 0x00#8, 0x00#8, 0x00#8, 0x00#8, 0x00#8, 0x00#8, 0x88#8, 0xA2#8,
       0x10#8, 0x00#8, 0x00#8, 0x01#8, 0x02#8, 0x00#8, 0x00#8, 0x00#8, 0x00#8, 0x02#8,
       0x00#8, 0x00#8, 0x02#8, 0x20#8, 0x05#8, 0x00#8, 0x00#8, 0x00#8, 0x00#8, 0x00#8, 0x00#8, 0x00#8] 36 0])) = true := by
  decide +kernel

/-- V-K4. -/
theorem test_query_response :
    goesTo (offered (iniAwaits .query 0#8) [.frame (qrsp 0x18#8 0x02#8)])
      (fun t => t.cstate == .connected && t.cOutcome.code == 0x48#8 && t.outputs == []) = true := by decide +kernel

/-- V-K7: E set. -/
theorem test_query_response_rejected :
    goesTo (offered (iniAwaits .query 0#8) [.frame (qrsp 0x1C#8 0x02#8)])
      (fun t => t.cstate == .disconnected && t.cOutcome.code == 0x47#8) = true := by decide +kernel

/-- V-K13. -/
theorem test_ata_response :
    goesTo (offered (iniAwaits .read 2#8) [.frame (irsp 0x40#8 0x02#8 (pBytes 0x11#8 ++ pBytes 0x22#8))])
      (fun t => t.outputs == [.done true .ok (pBytes 0x11#8 ++ pBytes 0x22#8)]) = true := by decide +kernel

/-- V-K15: too short for count 2. -/
theorem test_ata_response_short :
    goesTo (offered (iniAwaits .read 2#8) [.frame (irsp 0x40#8 0x02#8 (pBytes 0x11#8))])
      (fun t => t.outputs == [.done false .rejected []]) = true := by decide +kernel

/-- V-K16 and V-K17: one stray is let pass, the next ends the wait. -/
theorem test_strays :
    goesTo (offered (iniAwaits .read 2#8) [.frame (irsp 0x40#8 0x01#8 [])]) (fun t => t.strayCnt == 1 && t.outputs == [])
      = true ∧
    goesTo (offered { iniAwaits .read 2#8 with strayCnt := 1 } [.frame (irsp 0x40#8 0x01#8 [])])
      (fun t => t.strayCnt == 0 && t.outputs == [.done false .strayLimit []]) = true := by decide +kernel

/-! ### Witnesses: hypotheses of Certificates/Slice0/Obligations.lean met together

`witness_<Name>` is for `Obligations.<Name>`; where clauses exclude each other, one state for each. -/

theorem witness_DecodeUndoesEncode :
    (Instr.queryConfig qreqHeader (.short (zeros 7))).wellFormed = true ∧
    (Instr.ataIdentify ireqHeader (subOf 0xFF#8 0xFFFFFF#24) []).wellFormed = true ∧
    (Instr.ataReadRetry ireqHeader (subOf 0xFF#8 0xFFFFFF#24) []).wellFormed = true ∧
    (Instr.ataWriteRetry ireqHeader (subOf 0xFF#8 0xFFFFFF#24) [0xAA#8]).wellFormed = true ∧
    (Instr.ataUnsupported ireqHeader 0xFF#8 (subOf 0#8 0#24) []).wellFormed = true ∧
    (Instr.aoeUnsupported ireqHeader 0x02#8 []).wellFormed = true ∧
    (Instr.queryResponse qreqHeader (.short (zeros 7))).wellFormed = true ∧
    (Instr.ataResponse ireqHeader (.short (zeros 11))).wellFormed = true := by decide

theorem witness_EncodeUndoesDecode :
    decode (qreq.take 24) = .ok (.queryConfig qreqHeader (.short [])) ∧
    decode (ireq 0x20#8 0x04#8 0x64#8 0#8 0#8) = .ok (.ataReadRetry ireqHeader (subOf 0x04#8 100#24) []) :=
  ⟨by rfl, by rfl⟩

theorem witness_DecodeSelectsTheFirstMatchingRow :
    decode (ireq 0x24#8 0x01#8 0#8 0#8 0#8) = .ok (.ataUnsupported ireqHeader 0x24#8 (subOf 0x01#8 0#24) []) ∧
    decode (qreq.take 14 ++ [0x18#8, 0#8, 0#8, 1#8, 2#8, 0x02#8, 0xDE#8, 0xAD#8, 0xBE#8, 0xEF#8])
      = .error (.noRow { qreqHeader with major := 1#16, minor := 2#8 } 0x02#8) := ⟨by rfl, by rfl⟩

/-- The last window inside the buffer, and the first outside it. -/
theorem witness_CodecAccessorsReadBackWhatTheySet :
    (36 + 512 * 7) + 512 ≤ 36 + 512 * rsp.cfg.maxSectors ∧ 36 + 512 * rsp.cfg.maxSectors < (36 + 512 * 8) + 512 := by decide

theorem witness_BitFieldSettersKeepTheOtherBits :
    3 < 4 ∧ (7 < 8 ∧ 7 ≠ 3) ∧ (7 < 8 ∧ 7 ≠ 2) ∧ (4 ≤ 4 ∧ 7 < 8) ∧ (7 < 8 ∧ 7 ≠ 6) ∧ (7 < 8 ∧ 7 ≠ 0) := by decide

theorem witness_ResetValuesAreThoseOfTheSpec :
    (¬ (rsp.cfg.role = .responder ∧ rsp.cfg.announceOnInit = true)) ∧
    (¬ (ini.cfg.role = .responder ∧ ini.cfg.announceOnInit = true)) := by decide

theorem witness_ResetReloadsEveryRegister :
    (offered (rspIn .sreadWait) [.reset, .timeout]).inputs = .reset :: [.timeout] ∧
    (offered State.reset [.reset]).inputs = .reset :: [] := by decide

theorem witness_AbandonedAnswersAreNeverTaken :
    ∃ s t u rest, s.inputs = .reset :: rest ∧ step s = .next t ∧ Host.Core.run Sys2Proof.core 0 t = .next u ∧
      s.reqNo ≤ s.reqNo :=
  ⟨offered { rspIn .sreadWait with reqNo := 3 } [.reset], _, _, [], rfl,
    step_eq_after (p := fun _ => true) (by decide +kernel), rfl, Nat.le_refl _⟩

theorem witness_ResetSatisfiesTheInvariant :
    Config.wf { smallConfig with maxSectors := 1, rxMaxBytes := 24 } ∧ Config.wf { smallConfig with maxSectors := 255 } := by
  decide

theorem witness_EveryStepCompletesAndKeepsTheInvariant :
    ∀ s ∈ [offered State.reset [.txAnswer 1 true], rspIn .sreadWait,
        { rspIn .swriteWait with rx := ireq 0x30#8 0x02#8 0x05#8 0#8 0#8 ++ pBytes 0xAA#8 ++ pBytes 0x55#8 },
        { rspIn .txWait with rspValid := true }, rspIn .done, ini, iniConnected, iniAwaits .query 0#8, iniAwaits .read 2#8,
        iniSends .identify], s.Inv :=
  have h : ∀ l : List State, l.all invHolds = true → ∀ s ∈ l, s.Inv := fun _ hl s hs =>
    inv_of_invHolds (List.all_eq_true.1 hl s hs)
  h _ (by decide +kernel)

theorem witness_TransmitBufferIsZeroBetweenTransactions :
    (rsp.Inv ∧ Host.Core.run Sys2Proof.core 0 rsp = .next rsp ∧ rsp.cfg.role = .responder ∧ rsp.rstate = .idle) ∧
    (ini.Inv ∧ Host.Core.run Sys2Proof.core 0 ini = .next ini ∧ ini.cfg.role = .initiator ∧ ini.cstate ≠ .txWait) :=
  ⟨⟨inv_of_invHolds (by decide), rfl, by decide⟩, ⟨inv_of_invHolds (by decide), rfl, by decide⟩⟩

theorem witness_ConfigurationAndIdentityNeverChange :
    ∃ t, step (offered rsp [.frame qreq]) = .next t ∧ .reset ∉ (offered rsp [.frame qreq]).inputs :=
  ⟨_, step_eq_after (p := fun _ => true) (by decide +kernel), by decide⟩

theorem witness_EachRoleWritesOnlyItsOwnRegisters :
    (∃ t, step (offered rsp [.frame qreq]) = .next t ∧ .reset ∉ (offered rsp [.frame qreq]).inputs ∧
      rsp.cfg.role = .responder) ∧
    (∃ t, step (offered ini [.host .connect]) = .next t ∧ .reset ∉ (offered ini [.host .connect]).inputs ∧
      ini.cfg.role = .initiator) :=
  ⟨⟨_, step_eq_after (p := fun _ => true) (by decide +kernel), by decide⟩,
   ⟨_, step_eq_after (p := fun _ => true) (by decide +kernel), by decide⟩⟩

theorem witness_StepIssuesAtMostOneRequest : ∃ t, step (offered rsp [.frame qreq]) = .next t :=
  ⟨_, step_eq_after (p := fun _ => true) (by decide +kernel)⟩

/-- A Query response, and the announce. -/
theorem witness_ResponderTransmitsOnlyWhatItComposed :
    ∀ s ∈ [offered rsp [.frame qreq], offered { rsp with cfg := { Config.standard with maxSectors := 8 } } [.reset]],
      s.Inv ∧ s.cfg.role = .responder ∧ ∃ t, step s = .next t ∧ ∃ es bs len timeout,
        t.outputs = s.outputs ++ es ∧ .txReq bs len timeout ∈ es := by
  intro s hs
  rcases List.mem_cons.1 hs with rfl | hs
  · exact ⟨inv_of_invHolds (by decide), rfl, _, step_eq_after (p := fun _ => true) (by decide +kernel), _, _, _, _, rfl,
      List.mem_cons_self⟩
  · obtain rfl := List.mem_singleton.1 hs
    exact ⟨inv_of_invHolds (by decide), rfl, _, step_eq_after (p := fun _ => true) (by decide +kernel), _, _, _, _, rfl,
      List.mem_cons_self⟩

theorem witness_WaitingResponderChangesNothing :
    ∀ r ∈ [RState.initTxWait, .sreadWait, .swriteWait, .txWait], ∀ s, s = offered (rspIn r) [.frame qreq, .timeout] →
      s.cfg.role = .responder ∧ s.rstate ≠ .idle ∧ s.rstate ≠ .done ∧ .reset ∉ s.inputs ∧
      (∀ ok, .txAnswer s.reqNo ok ∉ s.inputs) ∧ (∀ ok d, .readAnswer s.reqNo ok d ∉ s.inputs) ∧
      (∀ ok, .writeAnswer s.reqNo ok ∉ s.inputs) := by
  rintro r hr s rfl
  simp only [List.mem_cons, List.not_mem_nil, or_false] at hr
  rcases hr with rfl | rfl | rfl | rfl <;> simp [offered, rspIn, rsp, State.resetOf, smallConfig, Config.standard]

theorem witness_DoneReportsTheResultRegisters :
    ∃ t, step (offered ini [.host .identify]) = .next t ∧ ∃ es r o d,
      t.outputs = (offered ini [.host .identify]).outputs ++ es ∧ .done r o d ∈ es :=
  ⟨_, step_eq_after (p := fun _ => true) (by decide +kernel), _, _, _, _, rfl,
      List.mem_cons_self⟩

theorem witness_StepRunsTheDecodedFrame :
    ∃ s, s = offered rsp [.timeout, .frame (qreq.take 24), .reset] ∧
      s.inputs = [.timeout] ++ .frame (qreq.take 24) :: [.reset] ∧ (∀ p ∈ [Input.timeout], s.accepts p = false) ∧
      s.accepts (.frame (qreq.take 24)) = true ∧ decode (qreq.take 24) = .ok (.queryConfig qreqHeader (.short [])) :=
  ⟨_, rfl, rfl, by decide, by decide, by rfl⟩

theorem witness_FrameNotAcceptedStaysAtItsPort :
    (rspIn .txWait).accepts (.frame (encode (.queryConfig qreqHeader (.short [])))) = false ∧
    (iniSends .read).accepts (.frame (encode (.ataIdentify ireqHeader (subOf 1#8 0#24) []))) = false := by decide

/-- Vectors V-D2 to V-D10: each check of R98 fails first for some frame. -/
theorem witness_InvalidFrameIsDroppedWithTheFirstFailingCode :
    ∀ c ∈ [(qreq.take 23, RCode.dropShort), ([0x02#8] ++ qreq.drop 1, .dropDst),
      (qreq.take 12 ++ [0x08#8] ++ qreq.drop 13, .dropType), (qreq.take 14 ++ [0x20#8] ++ qreq.drop 15, .dropVersion),
      (qreq.take 14 ++ [0x14#8] ++ qreq.drop 15, .dropEflag), (qreq.take 14 ++ [0x18#8] ++ qreq.drop 15, .dropRflag),
      (qreq.take 15 ++ [0x01#8] ++ qreq.drop 16, .dropError), (qreq.take 16 ++ [0x00#8, 0x02#8] ++ qreq.drop 18, .dropMajor),
      (qreq.take 18 ++ [0x03#8] ++ qreq.drop 19, .dropMinor)],
      (offered rsp [.frame c.1]).cfg.role = .responder ∧ (offered rsp [.frame c.1]).rstate = .idle ∧
      (offered rsp [.frame c.1]).Fits c.1 ∧ (offered rsp [.frame c.1]).inputs = .frame c.1 :: [] ∧
      firstFailedCheck (offered rsp [.frame c.1]).idMajor (offered rsp [.frame c.1]).idMinor c.1 = some c.2 := by decide

/-- The longest and the shortest such frame. -/
theorem witness_ShortIssueFrameIsDropped :
    ∀ rx ∈ [(ireq 0x20#8 1#8 0#8 0#8 0#8).take 24, (ireq 0x20#8 1#8 0#8 0#8 0#8).take 35],
      (offered rsp [.frame rx]).Ready ∧ (offered rsp [.frame rx]).Fits rx ∧
      (offered rsp [.frame rx]).inputs = .frame rx :: [] ∧
      firstFailedCheck (offered rsp [.frame rx]).idMajor (offered rsp [.frame rx]).idMinor rx = none ∧
      rx.getD 19 0#8 = 0x00#8 ∧ rx.length < 36 := by decide

theorem witness_UnsupportedAtaCommandIsDropped :
    rsp.Ready ∧ rsp.RequestOk ireqHeader ∧ rsp.Fits (encode (.ataUnsupported ireqHeader 0x24#8 (subOf 1#8 0#24) [])) ∧
    0x24#8 ≠ 0xEC#8 ∧ 0x24#8 ≠ 0x20#8 ∧ 0x24#8 ≠ 0x30#8 := by decide

theorem witness_UnsupportedAoeCommandIsDropped :
    rsp.Ready ∧ rsp.RequestOk qreqHeader ∧ rsp.Fits (encode (.aoeUnsupported qreqHeader 0x02#8 [])) ∧
    0x02#8 ≠ 0x00#8 ∧ 0x02#8 ≠ 0x01#8 := by decide

theorem witness_QueryConfigSendsTheQueryResponse :
    rsp.Ready ∧ rsp.RequestOk qreqHeader ∧ rsp.Fits (encode (.queryConfig qreqHeader (.short []))) := by decide

theorem witness_IdentifySendsTheIdentifyBlock :
    rsp.Ready ∧ rsp.RequestOk ireqHeader ∧ rsp.Fits (encode (.ataIdentify ireqHeader (subOf 0xFF#8 0x563412#24) [])) := by
  decide

theorem witness_ReadRequestsTheFirstSector :
    ∀ n ∈ [1#8, 8#8], rsp.Ready ∧ rsp.RequestOk ireqHeader ∧
      rsp.Fits (encode (.ataReadRetry ireqHeader (subOf n 0xFFFFFF#24) [])) ∧
      1 ≤ (subOf n 0xFFFFFF#24).sectorCount.toNat ∧ (subOf n 0xFFFFFF#24).sectorCount.toNat ≤ rsp.cfg.maxSectors := by decide

theorem witness_WriteRequestsTheFirstSector :
    ∀ n ∈ [1#8, 8#8], rsp.Ready ∧ rsp.RequestOk ireqHeader ∧
      rsp.Fits (encode (.ataWriteRetry ireqHeader (subOf n 5#24) (List.replicate (512 * n.toNat) 0xAA#8))) ∧
      1 ≤ (subOf n 5#24).sectorCount.toNat ∧ (subOf n 5#24).sectorCount.toNat ≤ rsp.cfg.maxSectors ∧
      512 * (subOf n 5#24).sectorCount.toNat ≤ (List.replicate (512 * n.toNat) 0xAA#8).length := by decide +kernel

theorem witness_TransferOfNoSectorSucceedsAtOnce :
    rsp.Ready ∧ rsp.RequestOk ireqHeader ∧ rsp.Fits (encode (.ataReadRetry ireqHeader (subOf 0#8 5#24) [])) ∧
    rsp.Fits (encode (.ataWriteRetry ireqHeader (subOf 0#8 5#24) [])) ∧ (subOf 0#8 5#24).sectorCount = 0x00#8 := by decide

theorem witness_CountAboveTheLimitIsDropped :
    ∀ n ∈ [9#8, 255#8], rsp.Ready ∧ rsp.RequestOk ireqHeader ∧
      rsp.Fits (encode (.ataReadRetry ireqHeader (subOf n 0#24) [])) ∧
      rsp.Fits (encode (.ataWriteRetry ireqHeader (subOf n 0#24) [])) ∧
      rsp.cfg.maxSectors < (subOf n 0#24).sectorCount.toNat := by decide

theorem witness_WriteShorterThanItsCountIsDropped :
    rsp.Ready ∧ rsp.RequestOk ireqHeader ∧
    rsp.Fits (encode (.ataWriteRetry ireqHeader (subOf 1#8 0#24) (List.replicate 511 0xAA#8))) ∧
    (subOf 1#8 0#24).sectorCount.toNat ≤ rsp.cfg.maxSectors ∧
    (List.replicate 511 0xAA#8).length < 512 * (subOf 1#8 0#24).sectorCount.toNat := by decide +kernel

/-- The first window and the last. -/
theorem witness_FailedReadSendsNothing :
    ∀ k ∈ [0#9, 7#9], ∀ s, s = offered { rspIn .sreadWait with tIdx := k } [.readAnswer 0 false (pSec 0xEE#8)] →
      s.cfg.role = .responder ∧ s.rstate = .sreadWait ∧ s.tIdx.toNat < s.cfg.maxSectors ∧
      s.inputs = .readAnswer s.reqNo false (pSec 0xEE#8) :: [] := by
  rintro k hk s rfl
  refine ⟨rfl, rfl, ?_, rfl⟩
  revert k; decide

theorem witness_ReadGoesOnWithTheNextSector :
    ∃ s, s = offered (rspIn .sreadWait) [.readAnswer 0 true (pSec 0x11#8)] ∧ s.cfg.role = .responder ∧
      s.rstate = .sreadWait ∧ s.tIdx.toNat + 1 < s.tCount.toNat ∧ s.tCount.toNat ≤ s.cfg.maxSectors ∧
      s.inputs = .readAnswer s.reqNo true (pSec 0x11#8) :: [] :=
  ⟨_, rfl, rfl, rfl, by decide, by decide, rfl⟩

theorem witness_FailedWriteSendsNothing :
    ∃ s, s = offered (rspIn .swriteWait) [.writeAnswer 0 false] ∧ s.cfg.role = .responder ∧ s.rstate = .swriteWait ∧
      s.inputs = .writeAnswer s.reqNo false :: [] := ⟨_, rfl, rfl, rfl, rfl⟩

theorem witness_WriteGoesOnWithTheNextSector :
    ∃ s, s = offered { rspIn .swriteWait with
          rx := ireq 0x30#8 0x02#8 0x05#8 0#8 0#8 ++ pBytes 0xAA#8 ++ pBytes 0x55#8 } [.writeAnswer 0 true] ∧
      s.cfg.role = .responder ∧ s.rstate = .swriteWait ∧ s.tIdx.toNat + 1 < s.tCount.toNat ∧
      36 + 512 * s.tCount.toNat ≤ s.rx.length ∧ s.inputs = .writeAnswer s.reqNo true :: [] :=
  ⟨_, rfl, rfl, rfl, by decide, by decide +kernel, rfl⟩

theorem witness_TransmitAnswerEndsTheTransaction :
    ∀ ok, (offered (rspIn .txWait) [.txAnswer 0 ok]).cfg.role = .responder ∧
      (offered (rspIn .txWait) [.txAnswer 0 ok]).rstate = .txWait ∧
      (offered (rspIn .txWait) [.txAnswer 0 ok]).inputs = .txAnswer (rspIn .txWait).reqNo ok :: [] := by decide

theorem witness_FinalClearReturnsToIdle :
    (rspIn .done).cfg.role = .responder ∧ (rspIn .done).rstate = .done ∧ (rspIn .done).inputs.head? ≠ some .reset ∧
    (offered (rspIn .done) [.frame qreq]).inputs.head? ≠ some .reset := by decide

theorem witness_AnnounceAnswerLeadsToIdle :
    ∀ ok, (offered State.reset [.txAnswer 1 ok]).cfg.role = .responder ∧
      (offered State.reset [.txAnswer 1 ok]).rstate = .initTxWait ∧
      (offered State.reset [.txAnswer 1 ok]).inputs = .txAnswer State.reset.reqNo ok :: [] := by decide

/-- Runs of 0, 1 and 8 sectors. -/
theorem witness_ReadSendsEverySectorInOrder :
    ∀ n ∈ [0, 1, 8], ∀ s h sub ds, h = ireqHeader → sub = subOf (BitVec.ofNat 8 n) 0xFFFFFF#24 →
      ds = List.replicate n (pSec 7#8) →
      s = offered rsp (.frame (encode (.ataReadRetry h sub [])) :: (readAnswers 1 ds ++ [.timeout])) →
      s.inputs = .frame (encode (.ataReadRetry h sub [])) :: (readAnswers (s.reqNo + 1) ds ++ [.timeout]) ∧
      s.Ready ∧ s.RequestOk h ∧ s.Fits (encode (.ataReadRetry h sub [])) ∧ sub.sectorCount.toNat = ds.length ∧
      ds.length ≤ s.cfg.maxSectors := by
  rintro n hn s h sub ds rfl rfl rfl rfl
  refine ⟨rfl, ?_⟩
  revert n; decide

theorem witness_WriteStoresEverySectorInOrder :
    ∀ n ∈ [0, 1, 8], ∀ s h sub ds, h = ireqHeader → sub = subOf (BitVec.ofNat 8 n) 5#24 →
      ds = List.replicate n (pSec 7#8) →
      s = offered rsp (.frame (encode (.ataWriteRetry h sub (sectorBytesOf ds ++ [0x00#8]))) ::
        (writeAnswers 1 ds.length ++ [])) →
      s.inputs = .frame (encode (.ataWriteRetry h sub (sectorBytesOf ds ++ [0x00#8]))) ::
        (writeAnswers (s.reqNo + 1) ds.length ++ []) ∧
      s.Ready ∧ s.RequestOk h ∧ s.Fits (encode (.ataWriteRetry h sub (sectorBytesOf ds ++ [0x00#8]))) ∧
      sub.sectorCount.toNat = ds.length ∧ ds.length ≤ s.cfg.maxSectors := by
  rintro n hn s h sub ds rfl rfl rfl rfl
  refine ⟨rfl, ?_⟩
  revert n; decide +kernel

/-- Failures at the first and at the last of 8 sectors. -/
theorem witness_ReadFailureTransmitsNothing :
    ∀ k ∈ [0, 7], ∀ s h sub ds bad, h = ireqHeader → sub = subOf 8#8 10#24 → ds = List.replicate k (pSec 7#8) →
      bad = pSec 0xEE#8 →
      s = offered rsp (.frame (encode (.ataReadRetry h sub [])) ::
        (readAnswers 1 ds ++ .readAnswer (0 + ds.length + 1) false bad :: [])) →
      s.inputs = .frame (encode (.ataReadRetry h sub [])) ::
        (readAnswers (s.reqNo + 1) ds ++ .readAnswer (s.reqNo + ds.length + 1) false bad :: []) ∧
      s.Ready ∧ s.RequestOk h ∧ s.Fits (encode (.ataReadRetry h sub [])) ∧ ds.length < sub.sectorCount.toNat ∧
      sub.sectorCount.toNat ≤ s.cfg.maxSectors := by
  rintro k hk s h sub ds bad rfl rfl rfl rfl rfl
  refine ⟨rfl, ?_⟩
  revert k; decide

theorem witness_ConnectBroadcastsADiscoveryRequest :
    ini.InitiatorIn .disconnected ∧ (iniAwaits .query 0#8).InitiatorIn .awaitQuery ∧ iniConnected.InitiatorIn .connected ∧
    (offered ini [.host .connect]).inputs = .host .connect :: [] := by decide

theorem witness_IdentifyCommandSendsItsRequest :
    iniConnected.InitiatorIn .connected ∧ (offered iniConnected [.host .identify]).inputs = .host .identify :: [] := by decide

theorem witness_ReadCommandSendsItsRequest :
    ∀ n ∈ [1, 8], iniConnected.InitiatorIn .connected ∧ 1 ≤ n ∧ n ≤ iniConnected.cfg.maxSectors ∧
      16777215 ≤ 2 ^ 24 - 1 ∧
      (offered iniConnected [.host (.read 16777215 n)]).inputs = .host (.read 16777215 n) :: [] := by decide

theorem witness_WriteCommandSendsItsRequest :
    ∀ n ∈ [1, 8], ∀ s w, w = List.replicate (512 * n) 0xAA#8 → s = offered iniConnected [.host (.write 16777215 n w)] →
      s.inputs = .host (.write 16777215 n w) :: [] ∧ s.InitiatorIn .connected ∧ 1 ≤ n ∧ n ≤ s.cfg.maxSectors ∧
      16777215 ≤ 2 ^ 24 - 1 ∧ w.length = 512 * n := by
  rintro n hn s w rfl rfl
  refine ⟨rfl, ?_⟩
  revert n; decide +kernel

theorem witness_OperationBeforeDiscoveryIsRefused :
    ∀ s ∈ [ini, iniAwaits .query 0#8], s.cfg.role = .initiator ∧ (s.cstate = .disconnected ∨ s.cstate = .awaitQuery) ∧
      HostCmd.identify ≠ .connect ∧ HostCmd.read 0 1 ≠ .connect ∧
      (offered s [.host .identify]).inputs = .host .identify :: [] := by decide

/-- Vectors V-K9, V-K10 and V-K11, and a count above `MAX_SECTORS`. -/
theorem witness_BadArgumentsAreRefused :
    (∀ sector count, (sector, count) ∈ [(5, 0), (16777216, 1), (0, 9)] →
      (offered iniConnected [.host (.read sector count)]).inputs = .host (.read sector count) :: [] ∧
      iniConnected.cfg.role = .initiator ∧ iniConnected.cstate = .connected ∧
      ¬ (1 ≤ count ∧ count ≤ iniConnected.cfg.maxSectors ∧ sector ≤ 2 ^ 24 - 1)) ∧
    (∀ w, w = List.replicate 1024 0#8 →
      (offered iniConnected [.host (.write 0 1 w)]).inputs = .host (.write 0 1 w) :: [] ∧
      ¬ (1 ≤ 1 ∧ 1 ≤ iniConnected.cfg.maxSectors ∧ 0 ≤ 2 ^ 24 - 1 ∧ w.length = 512 * 1)) := by
  constructor
  · rintro sector count h
    simp only [List.mem_cons, Prod.mk.injEq, List.not_mem_nil, or_false] at h
    rcases h with ⟨rfl, rfl⟩ | ⟨rfl, rfl⟩ | ⟨rfl, rfl⟩ <;> decide
  · rintro w rfl
    exact ⟨rfl, by decide +kernel⟩

theorem witness_ConnectCompletesOnItsTransmitAnswer :
    ∀ ok, (iniSends .query).cfg.role = .initiator ∧ (iniSends .query).cstate = .txWait ∧ (iniSends .query).opKind = .query ∧
      (offered (iniSends .query) [.txAnswer 0 ok]).inputs = .txAnswer (iniSends .query).reqNo ok :: [] := by decide

theorem witness_OperationGoesOnAfterItsTransmitAnswer :
    ∀ k ∈ [OpKind.identify, .read, .write], ∀ ok, (iniSends k).cfg.role = .initiator ∧ (iniSends k).cstate = .txWait ∧
      ((iniSends k).opKind = .identify ∨ (iniSends k).opKind = .read ∨ (iniSends k).opKind = .write) ∧
      (offered (iniSends k) [.txAnswer 0 ok]).inputs = .txAnswer (iniSends k).reqNo ok :: [] := by decide

theorem witness_QueryResponseBindsTheResponder :
    (iniAwaits .query 0#8).cfg.role = .initiator ∧ (iniAwaits .query 0#8).cstate = .awaitQuery ∧
    (iniAwaits .query 0#8).opKind = .query ∧ (iniAwaits .query 0#8).Fits (encode (.queryResponse (rspHeader 2#32) (.short []))) ∧
    (iniAwaits .query 0#8).ResponseMatches (rspHeader 2#32) ∧
    (iniAwaits .query 0#8).ResponseMatches { rspHeader 2#32 with flagError := true } := by decide

/-- 512 and 511 bytes of data: long enough, and one byte too short. -/
theorem witness_IdentifyResponseBindsTheCapacity :
    ∀ n ∈ [512, 511], (iniAwaits .identify 0#8).cfg.role = .initiator ∧ (iniAwaits .identify 0#8).cstate = .awaitOp ∧
      (iniAwaits .identify 0#8).opKind = .identify ∧ (iniAwaits .identify 0#8).ResponseMatches (rspHeader 2#32) ∧
      (iniAwaits .identify 0#8).Fits
        (encode (.ataResponse (rspHeader 2#32) (.full 0x40#8 (subOf 0#8 0#24) (List.replicate n 0x01#8)))) := by
  decide +kernel

theorem witness_ReadResponseDeliversTheData :
    ∀ n ∈ [512, 511], (iniAwaits .read 1#8).cfg.role = .initiator ∧ (iniAwaits .read 1#8).cstate = .awaitOp ∧
      (iniAwaits .read 1#8).opKind = .read ∧ (iniAwaits .read 1#8).ResponseMatches (rspHeader 2#32) ∧
      (iniAwaits .read 1#8).Fits
        (encode (.ataResponse (rspHeader 2#32) (.full 0x40#8 (subOf 0#8 0#24) (List.replicate n 0x01#8)))) := by
  decide +kernel

theorem witness_WriteResponseCompletesTheWrite :
    ∀ status ∈ [0x40#8, 0x41#8], (iniAwaits .write 1#8).cfg.role = .initiator ∧ (iniAwaits .write 1#8).cstate = .awaitOp ∧
      (iniAwaits .write 1#8).opKind = .write ∧ (iniAwaits .write 1#8).ResponseMatches (rspHeader 2#32) ∧
      (iniAwaits .write 1#8).Fits (encode (.ataResponse (rspHeader 2#32) (.full status (subOf 0#8 0#24) []))) := by decide

theorem witness_TruncatedAtaResponseIsRejected :
    ∀ k ∈ [OpKind.identify, .read, .write], (iniAwaits k 1#8).cfg.role = .initiator ∧ (iniAwaits k 1#8).cstate = .awaitOp ∧
      ((iniAwaits k 1#8).opKind = .identify ∨ (iniAwaits k 1#8).opKind = .read ∨ (iniAwaits k 1#8).opKind = .write) ∧
      (iniAwaits k 1#8).ResponseMatches (rspHeader 2#32) ∧ (zeros 11).length < 12 ∧
      (iniAwaits k 1#8).Fits (encode (.ataResponse (rspHeader 2#32) (.short (zeros 11)))) := by decide

/-- A stale response while a query waits, and while an operation waits below the limit and at it. -/
theorem witness_UnmatchedFrameIsAStray :
    ∀ s ∈ [iniAwaits .query 0#8, iniAwaits .read 1#8, { iniAwaits .read 1#8 with strayCnt := 1 }],
      s.cfg.role = .initiator ∧ (s.cstate = .awaitQuery ∨ s.cstate = .awaitOp) ∧ s.Fits (irsp 0x40#8 0x01#8 []) ∧
      (offered s [.frame (irsp 0x40#8 0x01#8 [])]).inputs = .frame (irsp 0x40#8 0x01#8 []) :: [] ∧
      matchesRaw s.opKind s.tag (irsp 0x40#8 0x01#8 []) = false := by decide

theorem witness_MatchedFrameEndsTheWait :
    ((iniAwaits .query 0#8).Inv ∧ (iniAwaits .query 0#8).cfg.role = .initiator ∧
      (iniAwaits .query 0#8).cstate = .awaitQuery ∧
      (iniAwaits .query 0#8).Fits (qrsp 0x18#8 0x02#8) ∧ matchesRaw .query 2#32 (qrsp 0x18#8 0x02#8) = true) ∧
    ((iniAwaits .read 1#8).Inv ∧ (iniAwaits .read 1#8).cfg.role = .initiator ∧ (iniAwaits .read 1#8).cstate = .awaitOp ∧
      (iniAwaits .read 1#8).Fits (irsp 0x40#8 0x02#8 []) ∧ matchesRaw .read 2#32 (irsp 0x40#8 0x02#8 []) = true) :=
  ⟨⟨inv_of_invHolds (by decide), by decide⟩, ⟨inv_of_invHolds (by decide), by decide⟩⟩

theorem witness_FrameOutsideAWaitIsDiscarded :
    ∀ s ∈ [ini, iniConnected], s.cfg.role = .initiator ∧ (s.cstate = .disconnected ∨ s.cstate = .connected) ∧
      s.Fits (qrsp 0x18#8 0x01#8) ∧
      (offered s [.frame (qrsp 0x18#8 0x01#8)]).inputs = .frame (qrsp 0x18#8 0x01#8) :: [] := by decide

theorem witness_TimeoutEndsTheWait :
    ∀ s ∈ [iniAwaits .read 1#8, iniAwaits .query 0#8, ini, iniConnected, iniSends .read],
      s.cfg.role = .initiator ∧ (offered s [.timeout]).inputs = .timeout :: [] := by decide

/-- One sector and `MAX_SECTORS` sectors. -/
theorem witness_ReadRoundTripDeliversTheStoredBytes :
    ∀ n ∈ [1, 8], iniConnected.InitiatorIn .connected ∧ iniConnected.dest = ⟨0#8, 0#8, 0#8, 0#8, 0#8, 0#8⟩ ∧ rsp.Ready ∧
      iniConnected.idMajor = rsp.idMajor ∧ iniConnected.idMinor = rsp.idMinor ∧
      1 ≤ (List.replicate n (pSec 7#8)).length ∧ (List.replicate n (pSec 7#8)).length ≤ iniConnected.cfg.maxSectors ∧
      (List.replicate n (pSec 7#8)).length ≤ rsp.cfg.maxSectors ∧ 16777215 ≤ 2 ^ 24 - 1 ∧ 36 ≤ rsp.cfg.rxMaxBytes ∧
      36 + 512 * (List.replicate n (pSec 7#8)).length ≤ iniConnected.cfg.rxMaxBytes := by decide

theorem witness_WriteRoundTripStoresTheHostsBytes :
    ∀ n ∈ [1, 8], iniConnected.InitiatorIn .connected ∧ iniConnected.dest = ⟨0#8, 0#8, 0#8, 0#8, 0#8, 0#8⟩ ∧ rsp.Ready ∧
      iniConnected.idMajor = rsp.idMajor ∧ iniConnected.idMinor = rsp.idMinor ∧
      1 ≤ (List.replicate n (pSec 7#8)).length ∧ (List.replicate n (pSec 7#8)).length ≤ iniConnected.cfg.maxSectors ∧
      (List.replicate n (pSec 7#8)).length ≤ rsp.cfg.maxSectors ∧ 16777215 ≤ 2 ^ 24 - 1 ∧
      36 + 512 * (List.replicate n (pSec 7#8)).length ≤ rsp.cfg.rxMaxBytes ∧ 36 ≤ iniConnected.cfg.rxMaxBytes := by decide

end Sys2Proof.Tests
end

/-! ## The state: what each role's rules write, and the invariant of every run

Every step but `RESET` is a rule of one role. `Frame ρ s t` says what a rule of the role `ρ` leaves unchanged, in any
state; `State.RoleOk` is the role's part of the invariant. Each shared operation is shown to keep both, the eight forms
of the opcode table are each shown to offer a frame to such a rule, and the statements about every step follow. -/

namespace Sys2Proof.Machine

open Sys2Proof

/-! ### Peeling a computation apart -/

/-- A computation that completes completed its first part. -/
theorem bind_completes {α β : Type} {x : Except Fault α} {f : α → Except Fault β} {b : β} (h : x >>= f = .ok b) :
    ∃ a, x = .ok a ∧ f a = .ok b := by
  cases x with
  | error e => cases h
  | ok a => exact ⟨a, rfl, h⟩

/-- A computation completes if its first part does and the rest does from there. -/
theorem completes_bind {α β : Type} {x : Except Fault α} {f : α → Except Fault β} {P : α → Prop} {Q : β → Prop}
    (hx : ∃ a, x = .ok a ∧ P a) (hf : ∀ a, P a → ∃ b, f a = .ok b ∧ Q b) : ∃ b, x >>= f = .ok b ∧ Q b := by
  obtain ⟨a, rfl, ha⟩ := hx
  exact hf a ha

/-! ### What a role's rules leave unchanged (R22, R23) -/

/-- A canonical buffer with no byte at `n` or above: `State.TxOk` for the buffer alone. -/
abbrev Memory.Within (n : Nat) (m : Memory) : Prop := m.wf ∧ ∀ c ∈ m, c.1 < n

/-- The identity registers. -/
def State.identity (s : State) : BitVec 16 × BitVec 8 × BitVec 64 := (s.idMajor, s.idMinor, s.idSectors)

/-- The registers of R16 and R18 that only an INITIATOR writes. -/
def State.initiatorRegs (s : State) :
    BitVec 32 × Mac × BitVec 64 × OpKind × BitVec 8 × Nat × Bool × CCode × BitVec 8 × List Byte × CState :=
  (s.tag, s.dest, s.cSectors, s.opKind, s.opCount, s.strayCnt, s.cResult, s.cOutcome, s.cCode, s.rdata, s.cstate)

/-- The registers of R16 and R17 that only a RESPONDER writes. -/
def State.responderRegs (s : State) :
    RState × BitVec 8 × BitVec 8 × BitVec 24 × BitVec 8 × BitVec 9 × Bool × BitVec 18 × RCode × BitVec 9 :=
  (s.rstate, s.tCmd, s.tAta, s.tLba, s.tCount, s.tIdx, s.rspValid, s.rspLen, s.outcome, s.failIdx)

/-- What a rule of the role `ρ` keeps from `s` to `t`: the configuration, the identity registers, the other role's
registers, and a canonical transmit buffer inside its bounds. -/
structure Frame (ρ : Role) (s t : State) : Prop where
  cfg       : t.cfg = s.cfg
  identity  : t.identity = s.identity
  initiator : ρ = .responder → t.initiatorRegs = s.initiatorRegs
  responder : ρ = .initiator → t.responderRegs = s.responderRegs
  txOk      : s.TxOk → t.TxOk

section
variable {ρ : Role} {s t u : State}

theorem Frame.refl (ρ : Role) (s : State) : Frame ρ s s := ⟨rfl, rfl, fun _ => rfl, fun _ => rfl, id⟩

theorem Frame.trans (h : Frame ρ s t) (h' : Frame ρ t u) : Frame ρ s u where
  cfg         := h'.cfg.trans h.cfg
  identity    := h'.identity.trans h.identity
  initiator r := (h'.initiator r).trans (h.initiator r)
  responder r := (h'.responder r).trans (h.responder r)
  txOk k      := h'.txOk (h.txOk k)

/-- `Frame.trans` with the later part first: what a rule keeps of an updated state it keeps of the state before, if the
update does. -/
theorem Frame.after (h' : Frame ρ t u) (h : Frame ρ s t) : Frame ρ s u := h.trans h'

/-- Composing in the buffer keeps every register. -/
theorem Frame.of_tx {m : Memory} (h : s.TxOk → m.Within s.cfg.txbufBytes) : Frame ρ s { s with tx := m } :=
  ⟨rfl, rfl, fun _ => rfl, fun _ => rfl, h⟩

/-- A setter keeps every register. -/
theorem Frame.of_txWrite {acc : Accessor} {o : Nat} {bs : List Byte} (h : s.txWrite acc o bs = .ok t) :
    Frame ρ s t := by
  have hok : s.TxOk → t.TxOk := fun k => State.txOk_txWrite k h
  obtain ⟨_, rfl⟩ := State.txWrite_cases h
  exact .of_tx hok

/-- Any other update of a responder: its own registers, the ports and the events. -/
theorem Frame.of_responder (hc : t.cfg = s.cfg) (hi : t.identity = s.identity) (hr : t.initiatorRegs = s.initiatorRegs)
    (ht : s.TxOk → t.TxOk) : Frame .responder s t := ⟨hc, hi, fun _ => hr, nofun, ht⟩

/-- Any other update of an initiator: its own registers, the ports and the events. -/
theorem Frame.of_initiator (hc : t.cfg = s.cfg) (hi : t.identity = s.identity) (hr : t.responderRegs = s.responderRegs)
    (ht : s.TxOk → t.TxOk) : Frame .initiator s t := ⟨hc, hi, nofun, fun _ => hr, ht⟩

end

/-! ### The composed buffers are canonical and inside the bounds -/

theorem Memory.Within.write {n o : Nat} {m : Memory} {bs : List Byte} (h : m.Within n) (hb : o + bs.length ≤ n) :
    (m.write o bs).Within n := ⟨Memory.wf_write h.1 _ _, Memory.bound_write h.2 hb⟩

theorem within_seededTx {n : Nat} {m : Memory} (h : m.Within n) (hn : 36 ≤ n) (major : BitVec 16) (minor : Byte)
    (hd : Header) (cmd : Byte) : (seededTx m major minor hd cmd).Within n := by
  unfold seededTx
  repeat refine Memory.Within.write ?_ (by simp; omega)
  exact h

theorem within_queryTx {n : Nat} {m : Memory} (h : m.Within n) (hn : 36 ≤ n) (c : Config) : (queryTx m c).Within n := by
  unfold queryTx
  repeat refine Memory.Within.write ?_ (by simp; omega)
  exact h

theorem within_composedTx {n : Nat} {m : Memory} (h : m.Within n) (hn : 36 ≤ n) (dst : Mac) (major : BitVec 16)
    (minor cmd : Byte) (tag : BitVec 32) : (composedTx m dst major minor cmd tag).Within n := by
  unfold composedTx
  repeat refine Memory.Within.write ?_ (by simp; omega)
  exact h

/-! ### The responder's part of the invariant, by state -/

section
variable {s : State}

theorem responderOk_idle (h : s.rstate = .idle) (htx : s.tx = Memory.empty) (hrx : s.rx = []) : s.ResponderOk := by
  simp [State.ResponderOk, h, htx, hrx]

theorem responderOk_initTxWait (h : s.rstate = .initTxWait) (hrx : s.rx = []) : s.ResponderOk := by
  simp [State.ResponderOk, h, hrx]

theorem responderOk_done (h : s.rstate = .done) : s.ResponderOk := by simp [State.ResponderOk, h]

theorem responderOk_txWait (h : s.rstate = .txWait) (hv : s.rspValid = true) : s.ResponderOk := by
  simp [State.ResponderOk, h, hv]

theorem responderOk_sreadWait (h : s.rstate = .sreadWait) (hi : s.tIdx.toNat < s.tCount.toNat)
    (hc : s.tCount.toNat ≤ s.cfg.maxSectors) : s.ResponderOk := by simp [State.ResponderOk, h, hi, hc]

theorem responderOk_swriteWait (h : s.rstate = .swriteWait) (hi : s.tIdx.toNat < s.tCount.toNat)
    (hc : s.tCount.toNat ≤ s.cfg.maxSectors) (hl : 36 + 512 * s.tCount.toNat ≤ s.rx.length) : s.ResponderOk := by
  simp [State.ResponderOk, h, hi, hc, hl]

/-! ### The initiator's part of the invariant, by state -/

theorem initiatorOk_rest (hc : s.cstate = .disconnected ∨ s.cstate = .connected) (hk : s.opKind = .none)
    (htx : s.tx = Memory.empty) : s.InitiatorOk := by
  rcases hc with hc | hc <;> simp [State.InitiatorOk, hc, hk, htx]

theorem initiatorOk_awaitQuery (hc : s.cstate = .awaitQuery) (hk : s.opKind = .query) (htx : s.tx = Memory.empty) :
    s.InitiatorOk := by simp [State.InitiatorOk, hc, hk, htx]

theorem initiatorOk_awaitOp (hc : s.cstate = .awaitOp) (hk : s.opKind = .identify ∨ s.opKind = .read ∨ s.opKind = .write)
    (htx : s.tx = Memory.empty) : s.InitiatorOk := by simp [State.InitiatorOk, hc, hk, htx]

theorem initiatorOk_txWait (hc : s.cstate = .txWait) (hk : s.opKind ≠ .none) : s.InitiatorOk := by
  simp [State.InitiatorOk, hc, hk]

end

/-! ### The responder's operations -/

theorem frame_drop (s : State) (code : RCode) : Frame .responder s (s.drop code) := .of_responder rfl rfl rfl id

theorem frame_respond (s : State) (len : Nat) : Frame .responder s (s.respond len) := .of_responder rfl rfl rfl id

theorem responderOk_respond (s : State) (len : Nat) : (s.respond len).ResponderOk := responderOk_txWait rfl rfl

theorem frame_drdyTx (ρ : Role) (s : State) : Frame ρ s { s with tx := drdyTx s.tx } :=
  .of_txWrite (s.setIDeviceReady_eq true)

theorem frame_storageFail {s t : State} {code : RCode} {kind : PrintKind} (h : s.storageFail code kind = .ok t) :
    Frame .responder s t := by
  obtain ⟨u, hu, h⟩ := bind_completes h
  cases h
  exact (Frame.of_txWrite hu).trans (.of_responder rfl rfl rfl id)

theorem storageFail_completes (s : State) (code : RCode) (kind : PrintKind) :
    ∃ t, s.storageFail code kind = .ok t ∧ t.ResponderOk := ⟨_, s.storageFail_eq code kind, responderOk_done rfl⟩

theorem frame_readNext {s t : State} (h : s.readNext = .ok t) : Frame .responder s t := by
  by_cases hd : s.tIdx.toNat = s.tCount.toNat
  · rw [State.readNext_done hd] at h
    cases h
    exact (frame_drdyTx _ s).trans (frame_respond _ _)
  · rw [State.readNext_more hd] at h
    cases h
    exact .of_responder rfl rfl rfl id

theorem readNext_completes {s : State} (hi : s.tIdx.toNat ≤ s.tCount.toNat)
    (hc : s.tCount.toNat ≤ s.cfg.maxSectors) : ∃ t, s.readNext = .ok t ∧ t.ResponderOk := by
  by_cases hd : s.tIdx.toNat = s.tCount.toNat
  · exact ⟨_, State.readNext_done hd, responderOk_respond _ _⟩
  · exact ⟨_, State.readNext_more hd, responderOk_sreadWait rfl (Nat.lt_of_le_of_ne hi hd) hc⟩

theorem frame_readAnswered {s t : State} {ok : Bool} {d : Sector} (h : s.readAnswered ok d = .ok t) :
    Frame .responder s t := by
  obtain ⟨u, hu, h⟩ := bind_completes h
  refine (Frame.of_txWrite hu).trans ?_
  cases ok with
  | true => exact (frame_readNext h).after (.of_responder rfl rfl rfl id)
  | false => exact frame_storageFail h

theorem readAnswered_completes {s : State} (ok : Bool) (d : Sector) (hi : s.tIdx.toNat < s.tCount.toNat)
    (hc : s.tCount.toNat ≤ s.cfg.maxSectors) : ∃ t, s.readAnswered ok d = .ok t ∧ t.ResponderOk := by
  have hw : s.tIdx.toNat < s.cfg.maxSectors := Nat.lt_of_lt_of_le hi hc
  cases ok with
  | true =>
    rw [State.readAnswered_ok hw]
    exact readNext_completes ((toNat_nextIdx hi).trans_le hi) hc
  | false =>
    rw [State.readAnswered_fail hw]
    exact storageFail_completes _ _ _

theorem frame_writeNext {s t : State} (h : s.writeNext = .ok t) : Frame .responder s t := by
  by_cases hd : s.tIdx.toNat = s.tCount.toNat
  · rw [State.writeNext_done hd] at h
    cases h
    exact (frame_drdyTx _ s).trans (frame_respond _ _)
  · have hs : s.sectorsDone = false := by rw [Bool.eq_false_iff, Ne, s.sectorsDone_iff]; exact hd
    simp only [State.writeNext, hs, Bool.false_eq_true, if_false] at h
    obtain ⟨d, -, h⟩ := bind_completes h
    cases h
    exact .of_responder rfl rfl rfl id

theorem writeNext_completes {s : State} (hi : s.tIdx.toNat ≤ s.tCount.toNat)
    (hc : s.tCount.toNat ≤ s.cfg.maxSectors) (hl : 36 + 512 * s.tCount.toNat ≤ s.rx.length) :
    ∃ t, s.writeNext = .ok t ∧ t.ResponderOk := by
  by_cases hd : s.tIdx.toNat = s.tCount.toNat
  · exact ⟨_, State.writeNext_done hd, responderOk_respond _ _⟩
  · have hlt : s.tIdx.toNat < s.tCount.toNat := Nat.lt_of_le_of_ne hi hd
    exact ⟨_, State.writeNext_more hd (by omega), responderOk_swriteWait rfl hlt hc hl⟩

theorem frame_writeAnswered {s t : State} {ok : Bool} (h : s.writeAnswered ok = .ok t) : Frame .responder s t := by
  cases ok with
  | true =>
    rw [State.writeAnswered_ok] at h
    exact (frame_writeNext h).after (.of_responder rfl rfl rfl id)
  | false =>
    rw [State.writeAnswered_fail] at h
    exact frame_storageFail h

theorem writeAnswered_completes {s : State} (ok : Bool) (hi : s.tIdx.toNat < s.tCount.toNat)
    (hc : s.tCount.toNat ≤ s.cfg.maxSectors) (hl : 36 + 512 * s.tCount.toNat ≤ s.rx.length) :
    ∃ t, s.writeAnswered ok = .ok t ∧ t.ResponderOk := by
  cases ok with
  | true =>
    rw [State.writeAnswered_ok]
    exact writeNext_completes ((toNat_nextIdx hi).trans_le hi) hc hl
  | false =>
    rw [State.writeAnswered_fail]
    exact storageFail_completes _ _ _

/-! ### The responder's rules for a frame -/

/-- A rule that a responder runs on a frame: it leaves the frame of its role in any state, and in any state with a
sector of buffer it completes and ends in the responder's part of the invariant. -/
structure ResponderRule (f : State → Except Fault State) : Prop where
  leaves    : ∀ {s t}, f s = .ok t → Frame .responder s t
  completes : ∀ {s : State}, 1 ≤ s.cfg.maxSectors → ∃ t, f s = .ok t ∧ t.ResponderOk

/-- A rule that only drops the frame, after updates `g` that keep the other role's registers (R153). -/
theorem dropRule {g : State → State} (hg : ∀ s, Frame .responder s (g s)) (code : RCode) :
    ResponderRule (fun s => .ok ((g s).drop code)) where
  leaves h := by cases h; exact (hg _).trans (frame_drop _ _)
  completes _ := ⟨_, rfl, responderOk_done rfl⟩

theorem queryConfigRule : ResponderRule State.queryConfig where
  leaves {s t} h := by
    rw [State.queryConfig_eq] at h
    cases h
    exact (frame_respond _ _).after (.of_tx fun k => within_queryTx k (txbufBytes_ge _) _)
  completes _ := ⟨_, State.queryConfig_eq _, responderOk_respond _ _⟩

theorem identifyRule : ResponderRule State.identify where
  leaves {s t} h := by
    obtain ⟨u, hu, h⟩ := bind_completes h
    obtain ⟨v, hv, h⟩ := bind_completes h
    cases h
    exact (Frame.of_txWrite hu).trans ((Frame.of_txWrite hv).trans (frame_respond _ _))
  completes hm := ⟨_, State.identify_eq hm, responderOk_respond _ _⟩

theorem readStartRule (sub : IssueSub) : ResponderRule (State.readStart sub) where
  leaves {s t} h := by
    simp only [State.readStart] at h
    split at h
    · cases h
      exact .of_responder rfl rfl rfl id
    · exact (frame_readNext h).after (.of_responder rfl rfl rfl id)
  completes {s} _ := by
    simp only [State.readStart]
    split
    · exact ⟨_, rfl, responderOk_done rfl⟩
    · next hc => exact readNext_completes (Nat.zero_le _) (Nat.le_of_not_lt hc)

theorem writeStartRule (sub : IssueSub) : ResponderRule (State.writeStart sub) where
  leaves {s t} h := by
    simp only [State.writeStart] at h
    split at h
    · cases h
      exact .of_responder rfl rfl rfl id
    · split at h
      · cases h
        exact .of_responder rfl rfl rfl id
      · exact (frame_writeNext h).after (.of_responder rfl rfl rfl id)
  completes {s} _ := by
    simp only [State.writeStart]
    split
    · exact ⟨_, rfl, responderOk_done rfl⟩
    · next hc =>
      split
      · exact ⟨_, rfl, responderOk_done rfl⟩
      · next hl => exact writeNext_completes (Nat.zero_le _) (Nat.le_of_not_lt hc) (Nat.le_of_not_lt hl)

theorem ataUnsupportedRule : ResponderRule State.ataUnsupported :=
  dropRule (g := State.print .unsupportedAtaCmd) (fun _ => .of_responder rfl rfl rfl id) .dropAtaCmd

theorem aoeUnsupportedRule : ResponderRule State.aoeUnsupported :=
  dropRule (g := State.print .unsupportedAoeCmd) (fun _ => .of_responder rfl rfl rfl id) .dropAoeCmd

theorem issueRule {form : State → Except Fault State} (ata : Byte) (hf : ResponderRule form) :
    ResponderRule (State.issue ata form) where
  leaves {s _} h := (hf.leaves (s := { s with tAta := ata }) h).after (.of_responder rfl rfl rfl id)
  completes {s} hm := hf.completes (s := { s with tAta := ata }) hm

/-- Latching a frame and dropping it in validation (R98, R99). -/
theorem frame_latch_drop (s : State) (rx : List Byte) (code : RCode) :
    Frame .responder s ((s.latch rx).drop code) := .of_responder rfl rfl rfl id

theorem frame_inTransaction (s : State) (rx : List Byte) (cmd ata : Byte) (lba : BitVec 24) (count : Byte) :
    Frame .responder s (s.inTransaction rx cmd ata lba count) := .of_responder rfl rfl rfl id

/-- The accepting step of a request: dropped in validation, or its form's own rule on the seeded buffer (R98). -/
theorem acceptRule {form : State → Except Fault State} (f : Bool) (cmd : Byte) (h : Header) (rx : List Byte)
    (hf : ResponderRule form) : ResponderRule (State.accept f cmd h rx form) where
  leaves {s t} ht := by
    cases hv : s.validate f h with
    | some code =>
      rw [State.accept_drop hv] at ht
      cases ht
      exact frame_latch_drop s rx code
    | none =>
      rw [State.accept_ok hv] at ht
      refine (hf.leaves ht).after ((frame_inTransaction s rx cmd _ _ _).trans (.of_tx fun k => ?_))
      exact within_seededTx k (txbufBytes_ge _) _ _ _ _
  completes {s} hm := by
    cases hv : s.validate f h with
    | some code => exact ⟨_, State.accept_drop hv, responderOk_done rfl⟩
    | none =>
      rw [State.accept_ok hv]
      exact hf.completes hm

/-- A response never passes a responder's validation, which tests the R flag (R98). -/
theorem State.validate_response (s : State) (h : Header) : ∃ code, s.validate true h = some code := by
  simp only [State.validate, if_true]
  split_ifs <;> exact ⟨_, rfl⟩

/-- The accepting step of a response: always dropped in validation (R98). -/
theorem acceptResponseRule (cmd : Byte) (h : Header) (rx : List Byte) (form : State → Except Fault State) :
    ResponderRule (State.accept true cmd h rx form) where
  leaves {s t} ht := by
    obtain ⟨code, hv⟩ := s.validate_response h
    rw [State.accept_drop hv] at ht
    cases ht
    exact frame_latch_drop s rx code
  completes {s} _ := by
    obtain ⟨code, hv⟩ := s.validate_response h
    exact ⟨_, State.accept_drop hv, responderOk_done rfl⟩

/-- A frame without a form (R98, R103). -/
theorem acceptUndecodedRule (e : DecodeError) (rx : List Byte) : ResponderRule (State.acceptUndecoded e rx) := by
  cases e with
  | shortFrame => exact dropRule (g := State.latch rx) (fun _ => .of_responder rfl rfl rfl id) .dropShort
  | shortIssue h => exact acceptRule _ _ _ _ (dropRule (g := id) (Frame.refl _) .dropIssueShort)
  | noRow h c => exact acceptResponseRule _ _ _ _

/-! ### The initiator's operations -/

theorem frame_complete (s : State) (r : Bool) (c : CCode) (d : List Byte) : Frame .initiator s (s.complete r c d) :=
  .of_initiator rfl rfl rfl id

/-- `complete` ends every wait but the one for the query response, which it leaves alone (R146). -/
theorem initiatorOk_complete {s : State} (r : Bool) (c : CCode) (d : List Byte) (hq : s.cstate ≠ .awaitQuery)
    (htx : s.tx = Memory.empty) : (s.complete r c d).InitiatorOk := by
  refine initiatorOk_rest ?_ rfl htx
  rw [State.complete_cstate]
  cases hc : s.cstate with
  | awaitQuery => exact absurd hc hq
  | disconnected => simp
  | connected => simp
  | txWait => simp
  | awaitOp => simp

/-- The success test completes on a frame of any length (R140 to R142): it reads the status byte only where there is
one. -/
theorem responseOk_completes {rx : List Byte} {len : Nat} (hl : 36 ≤ len) (h : Header) :
    ∃ b, responseOk rx len h = .ok b ∧ (b = true → len ≤ rx.length) := by
  unfold responseOk
  split
  · next hc =>
    have hb : 27 + 1 ≤ (Buffer.rx rx).size := by
      show 28 ≤ rx.length
      omega
    simp only [Buffer.getIStatusError, Buffer.getIDeviceReady, Buffer.get_ok hb, bind, Except.bind, pure, Except.pure]
    exact ⟨_, rfl, fun _ => hc.1⟩
  · exact ⟨false, rfl, nofun⟩

theorem identifyAnswered_cases (h : Header) (rx : List Byte) (s : State) :
    ∃ cap r c d, s.identifyAnswered h rx = .ok (State.complete r c d { s with cSectors := cap }) := by
  obtain ⟨b, hb, hlen⟩ := responseOk_completes (rx := rx) (len := issueHdrBytes + sectorBytes) (by decide) h
  cases b with
  | true =>
    have hcap : identCapOff + 8 ≤ (Buffer.rx rx).size := Nat.le_trans (by decide) (hlen rfl)
    simp only [State.identifyAnswered, hb, Buffer.getIdCapacity, Buffer.get_ok hcap, bind, Except.bind, pure, Except.pure,
      if_true]
    exact ⟨_, _, _, _, rfl⟩
  | false =>
    simp only [State.identifyAnswered, hb, bind, Except.bind, pure, Except.pure, Bool.false_eq_true, if_false]
    exact ⟨s.cSectors, _, _, _, rfl⟩

theorem readResponse_cases (h : Header) (rx : List Byte) (s : State) :
    ∃ r c d, s.readResponse h rx = .ok (s.complete r c d) := by
  obtain ⟨b, hb, -⟩ := responseOk_completes (rx := rx) (len := issueHdrBytes + sectorBytes * s.opCount.toNat)
    (Nat.le_add_right _ _) h
  simp only [State.readResponse, hb, bind, Except.bind, pure, Except.pure]
  cases b <;> exact ⟨_, _, _, rfl⟩

theorem writeResponse_cases (h : Header) (rx : List Byte) (s : State) :
    ∃ r c d, s.writeResponse h rx = .ok (s.complete r c d) := by
  obtain ⟨b, hb, -⟩ := responseOk_completes (rx := rx) (len := issueHdrBytes) (Nat.le_refl _) h
  simp only [State.writeResponse, hb, bind, Except.bind, pure, Except.pure]
  cases b <;> exact ⟨_, _, _, rfl⟩

/-- Everything a matching ATA response can do: with an operation outstanding it completes it, perhaps loading
`C_SECTORS` (R137, R140 to R142). -/
theorem ataAnswered_cases (h : Header) (rx : List Byte) (s : State) :
    s.ataAnswered h rx = .ok s ∨
    s.opKind ≠ .query ∧ ∃ cap r c d, s.ataAnswered h rx = .ok (State.complete r c d { s with cSectors := cap }) := by
  unfold State.ataAnswered
  cases s.opKind with
  | none => exact .inl rfl
  | query => exact .inl rfl
  | identify => exact .inr ⟨nofun, identifyAnswered_cases h rx s⟩
  | read => exact .inr ⟨nofun, s.cSectors, readResponse_cases h rx s⟩
  | write => exact .inr ⟨nofun, s.cSectors, writeResponse_cases h rx s⟩

/-- Everything a frame that does not match can do (R144). -/
theorem stray_cases (s : State) :
    s.stray = s ∨ s.stray = { s with strayCnt := s.strayCnt + 1 } ∨
    s.cstate = .awaitOp ∧ s.stray = s.complete false .strayLimit [] := by
  unfold State.stray
  split
  · next hc =>
    cases s.cfg.clientMaxStray with
    | none => exact .inr (.inl rfl)
    | some limit =>
      by_cases hl : limit ≤ s.strayCnt
      · exact .inr (.inr ⟨hc, if_pos hl⟩)
      · exact .inr (.inl (if_neg hl))
  · exact .inl rfl

/-! ### The initiator's rules for a frame -/

/-- A rule that an initiator runs on a frame: it leaves the frame of its role in any state, and outside `C_TX_WAIT` it
completes and keeps the initiator's part of the invariant. -/
structure InitiatorRule (g : State → Except Fault State) : Prop where
  leaves    : ∀ {s t}, g s = .ok t → Frame .initiator s t
  completes : ∀ {s : State}, s.InitiatorOk → s.cstate ≠ .txWait → ∃ t, g s = .ok t ∧ t.InitiatorOk

theorem discardRule : InitiatorRule .ok where
  leaves h := by cases h; exact .refl _ _
  completes hs _ := ⟨_, rfl, hs⟩

theorem strayRule : InitiatorRule (fun s => .ok s.stray) where
  leaves {s t} h := by
    cases h
    rcases stray_cases s with h | h | ⟨-, h⟩ <;> rw [h]
    · exact .refl _ _
    · exact .of_initiator rfl rfl rfl id
    · exact frame_complete _ _ _ _
  completes {s} hs hc := by
    refine ⟨_, rfl, ?_⟩
    rcases stray_cases s with h | h | ⟨ha, h⟩ <;> rw [h]
    · exact hs
    · exact hs
    · exact initiatorOk_complete _ _ _ (by simp [ha]) (hs.1 hc)

/-- A frame that an initiator takes is discarded, decoded or a stray (R127, R137). -/
theorem receiveRule (isMatch : State → Bool) {decoded : State → Except Fault State} (hd : InitiatorRule decoded) :
    InitiatorRule (fun s => s.receive (isMatch s) decoded) where
  leaves {s t} h := by
    simp only [State.receive] at h
    split at h
    · split at h
      · exact hd.leaves h
      · exact strayRule.leaves h
    · exact discardRule.leaves h
  completes {s} hs hc := by
    simp only [State.receive]
    split
    · split
      · exact hd.completes hs hc
      · exact strayRule.completes hs hc
    · exact discardRule.completes hs hc

theorem ataAnsweredRule (h : Header) (rx : List Byte) : InitiatorRule (State.ataAnswered h rx) where
  leaves {s t} ht := by
    rcases ataAnswered_cases h rx s with hk | ⟨-, cap, r, c, d, hk⟩ <;> rw [hk] at ht <;> cases ht
    · exact .refl _ _
    · exact (frame_complete _ _ _ _).after (.of_initiator rfl rfl rfl id)
  completes {s} hs hc := by
    rcases ataAnswered_cases h rx s with hk | ⟨hq, cap, r, c, d, hk⟩
    · exact ⟨_, hk, hs⟩
    · obtain ⟨htx, -, hquery, -, -⟩ := hs
      exact ⟨_, hk, initiatorOk_complete _ _ _ (fun h => hq (hquery h)) (htx hc)⟩

theorem queryAnsweredRule (h : Header) : InitiatorRule (fun s => .ok (s.queryAnswered h)) where
  leaves {s t} ht := by
    cases ht
    unfold State.queryAnswered
    split <;> exact .of_initiator rfl rfl rfl id
  completes {s} hs hc := by
    refine ⟨_, rfl, ?_⟩
    unfold State.queryAnswered
    split
    · exact initiatorOk_rest (.inr rfl) rfl (hs.1 hc)
    · exact initiatorOk_rest (.inl rfl) rfl (hs.1 hc)

/-! ### A frame, whatever its form -/

/-- Every form of the opcode table offers its frame to one rule of each role. -/
theorem exec_offers (i : Instr) :
    ∃ f g, ResponderRule f ∧ InitiatorRule g ∧ ∀ s, exec i s = s.offer (encode i) f g := by
  cases i with
  | queryConfig h q =>
    exact ⟨_, _, acceptRule _ _ _ _ queryConfigRule, receiveRule _ discardRule, fun _ => rfl⟩
  | ataIdentify h sub data =>
    exact ⟨_, _, acceptRule _ _ _ _ (issueRule _ identifyRule), receiveRule _ discardRule, fun _ => rfl⟩
  | ataReadRetry h sub data =>
    exact ⟨_, _, acceptRule _ _ _ _ (issueRule _ (readStartRule sub)), receiveRule _ discardRule, fun _ => rfl⟩
  | ataWriteRetry h sub data =>
    exact ⟨_, _, acceptRule _ _ _ _ (issueRule _ (writeStartRule sub)), receiveRule _ discardRule, fun _ => rfl⟩
  | ataUnsupported h ata sub data =>
    exact ⟨_, _, acceptRule _ _ _ _ (issueRule ata ataUnsupportedRule), receiveRule _ discardRule, fun _ => rfl⟩
  | aoeUnsupported h command payload =>
    exact ⟨_, _, acceptRule _ _ _ _ aoeUnsupportedRule, receiveRule _ discardRule, fun _ => rfl⟩
  | queryResponse h q =>
    exact ⟨_, _, acceptResponseRule _ _ _ _, receiveRule _ (queryAnsweredRule h), fun _ => rfl⟩
  | ataResponse h r =>
    exact ⟨_, _, acceptResponseRule _ _ _ _, receiveRule _ (ataAnsweredRule h _), fun _ => rfl⟩

/-- A frame that is taken is offered to one rule of each role, whether or not it has a form. -/
theorem takeFrame_offers (rx : List Byte) :
    ∃ rx' f g, ResponderRule f ∧ InitiatorRule g ∧ ∀ s : State, s.takeFrame rx = s.offer rx' f g := by
  unfold State.takeFrame
  cases decode rx with
  | ok i =>
    obtain ⟨f, g, hf, hg, he⟩ := exec_offers i
    exact ⟨_, f, g, hf, hg, he⟩
  | error e => exact ⟨_, _, _, acceptUndecodedRule e rx, receiveRule (fun _ => false) discardRule, fun _ => rfl⟩

/-- A frame that is not accepted is held at its port (R24). -/
theorem State.offer_held {s : State} {rx : List Byte} {f g : State → Except Fault State}
    (ha : s.acceptsFrame rx = false) : s.offer rx f g = .next (s.hold (.frame rx)) := by
  simp only [State.offer, ha, Bool.false_eq_true, if_false]

/-- A frame offered to either role: held at its port, or accepted and run by the role's rule (R6, R24). -/
theorem State.offer_cases (s : State) (rx : List Byte) (f g : State → Except Fault State) :
    s.offer rx f g = .next (s.hold (.frame rx)) ∨
    (s.cfg.role = .responder ∧ s.offer rx f g = toOutcome (f s)) ∨
    (s.cfg.role = .initiator ∧ s.cstate ≠ .txWait ∧ s.offer rx f g = toOutcome (g s)) := by
  cases ha : s.acceptsFrame rx with
  | false => exact .inl (State.offer_held ha)
  | true =>
    cases hr : s.cfg.role with
    | responder =>
      obtain ⟨hf, hi⟩ := (State.accepts_frame_responder hr rx).mp ha
      exact .inr (.inl ⟨rfl, State.offer_responder hr hi hf⟩)
    | initiator =>
      obtain ⟨hf, hc⟩ := (State.accepts_frame_initiator hr rx).mp ha
      exact .inr (.inr ⟨rfl, hc, State.offer_initiator hr hc hf⟩)

/-! ### The rules of the other inputs -/

theorem frame_announced (s : State) (ok : Bool) : Frame .responder s (s.announced ok) :=
  .of_responder rfl rfl rfl fun _ => State.txOk_clearTx s

theorem frame_transmitted (s : State) (ok : Bool) : Frame .responder s (s.transmitted ok) := by
  cases ok <;> exact .of_responder rfl rfl rfl id

theorem responderOk_transmitted (s : State) (ok : Bool) : (s.transmitted ok).ResponderOk := by
  cases ok <;> exact responderOk_done rfl

theorem frame_finalClear (s : State) : Frame .responder s s.finalClear :=
  .of_responder rfl rfl rfl fun _ => State.txOk_clearTx s

theorem frame_timedOut (s : State) : Frame .initiator s s.timedOut := by
  unfold State.timedOut
  split <;> exact .of_initiator rfl rfl rfl id

theorem initiatorOk_timedOut {s : State} (hs : s.InitiatorOk) : s.timedOut.InitiatorOk := by
  have htx : s.cstate ≠ .txWait → s.tx = Memory.empty := hs.1
  unfold State.timedOut
  split
  · next hc => exact initiatorOk_complete _ _ _ (by simp [hc]) (htx (by simp [hc]))
  · next hc => exact initiatorOk_rest (.inl rfl) rfl (htx (by simp [hc]))
  · exact hs

theorem frame_sent (s : State) (ok : Bool) : Frame .initiator s (s.sent ok) := by
  unfold State.sent
  dsimp only
  split <;> exact .of_initiator rfl rfl rfl fun _ => State.txOk_clearTx s

/-- The transmit answer to an operation's request (R133 to R135): its wait begins, or it completes as failed. -/
theorem State.sent_operation {s : State} (hk : s.opKind = .identify ∨ s.opKind = .read ∨ s.opKind = .write) :
    s.sent true = { s.clearTx with cstate := .awaitOp, strayCnt := 0 } ∧
    s.sent false = State.complete false .txFail [] { s.clearTx with cstate := .connected, opKind := .none } := by
  rcases hk with hk | hk | hk <;> simp only [State.sent, State.clearTx_opKind, hk, and_self]

/-- The transmit answer ends `C_TX_WAIT` (R131): in the wait that `OP_KIND` names, or at rest with none. -/
theorem initiatorOk_sent {s : State} (hk : s.opKind ≠ .none) (ok : Bool) : (s.sent ok).InitiatorOk := by
  have operation (ho : s.opKind = .identify ∨ s.opKind = .read ∨ s.opKind = .write) : (s.sent ok).InitiatorOk := by
    obtain ⟨ht, hf⟩ := State.sent_operation ho
    cases ok with
    | true => rw [ht]; exact initiatorOk_awaitOp rfl ho rfl
    | false => rw [hf]; exact initiatorOk_complete _ _ _ nofun rfl
  cases hq : s.opKind with
  | none => exact absurd hq hk
  | identify => exact operation (.inl hq)
  | read => exact operation (.inr (.inl hq))
  | write => exact operation (.inr (.inr hq))
  | query =>
    cases ok with
    | true =>
      simp only [State.sent, State.clearTx_opKind, hq]
      exact initiatorOk_awaitQuery rfl rfl rfl
    | false =>
      simp only [State.sent, State.clearTx_opKind, hq]
      refine initiatorOk_rest ?_ rfl rfl
      by_cases hp : s.cPrev = .connected
      · exact .inr (if_pos hp)
      · exact .inl (if_neg hp)

/-! ### The host's commands -/

/-- A request composed and sent: what a host command leaves when it sends (R131 to R135). -/
structure SentRequest (s t : State) : Prop where
  frame  : Frame .initiator s t
  cstate : t.cstate = .txWait
  opKind : t.opKind ≠ .none

theorem SentRequest.of_send {s u : State} (len : Nat) (hf : Frame .initiator s u) (hk : u.opKind ≠ .none) :
    SentRequest s (u.send len) where
  frame  := hf.trans (.of_initiator rfl rfl rfl id)
  cstate := rfl
  opKind := hk

theorem SentRequest.initiatorOk {s t : State} (h : SentRequest s t) : t.InitiatorOk := initiatorOk_txWait h.cstate h.opKind

/-- Composing a header changes the tag and the buffer, and always completes (R129, R130). -/
theorem composeHeader_frame (s : State) (dst : Mac) (major : BitVec 16) (minor cmd : Byte) :
    ∃ t, s.composeHeader dst major minor cmd = .ok t ∧ Frame .initiator s t := by
  have tagged : Frame .initiator s { s with tag := s.tag + 1#32 } := .of_initiator rfl rfl rfl id
  refine ⟨_, s.composeHeader_eq dst major minor cmd, tagged.trans (.of_tx fun k => ?_)⟩
  exact within_composedTx k (txbufBytes_ge _) _ _ _ _ _

/-- A setter below byte 36 always completes, and keeps what was kept so far. -/
theorem Frame.header {s u : State} {acc : Accessor} {o : Nat} {bs : List Byte} (hu : Frame .initiator s u)
    (hb : o + bs.length ≤ 36) : ∃ t, u.txWrite acc o bs = .ok t ∧ Frame .initiator s t :=
  have hw := u.txWrite_header (acc := acc) hb
  ⟨_, hw, hu.trans (.of_txWrite hw)⟩

/-- The data windows of a Write request fit the buffer (R135, R136). -/
theorem Frame.windows {s u : State} {n : Nat} {w : List Byte} (hu : Frame .initiator s u) (hn : n ≤ s.cfg.maxSectors)
    (hw : w.length = 512 * n) : ∃ t, State.setWindows n 0 w u = .ok t ∧ Frame .initiator s t := by
  have hn' : 0 + n ≤ u.cfg.maxSectors := by rw [hu.cfg]; omega
  obtain ⟨m, hm, -, -⟩ := State.setWindows_eq hn' hw
  exact ⟨_, hm, hu.trans (.of_tx fun k => (State.txOk_setWindows k hm).1)⟩

theorem connect_sends (s : State) : ∃ t, s.connect = .ok t ∧ SentRequest s t :=
  completes_bind (composeHeader_frame s _ _ _ _) fun _ h =>
    ⟨_, rfl, .of_send _ (h.trans (.of_initiator rfl rfl rfl id)) nofun⟩

theorem hostIdentify_sends (s : State) : ∃ t, s.hostIdentify = .ok t ∧ SentRequest s t :=
  completes_bind (composeHeader_frame s _ _ _ _) fun _ h =>
  completes_bind (h.header (by simp)) fun _ h =>
  completes_bind (h.header (by simp)) fun _ h =>
    ⟨_, rfl, .of_send _ (h.trans (.of_initiator rfl rfl rfl id)) nofun⟩

theorem hostRead_sends {s : State} {sector count : Nat} (ha : argsOk s.cfg sector count = true) :
    ∃ t, s.hostRead sector count = .ok t ∧ SentRequest s t := by
  rw [State.hostRead, if_pos ha]
  exact
    completes_bind (composeHeader_frame s _ _ _ _) fun _ h =>
    completes_bind (h.header (by simp)) fun _ h =>
    completes_bind (h.header (by simp)) fun _ h =>
    completes_bind (h.header (by simp)) fun _ h =>
      ⟨_, rfl, .of_send _ (h.trans (.of_initiator rfl rfl rfl id)) nofun⟩

theorem hostWrite_sends {s : State} {sector count : Nat} {w : List Byte} (ha : argsOk s.cfg sector count = true)
    (hw : w.length = sectorBytes * count) : ∃ t, s.hostWrite sector count w = .ok t ∧ SentRequest s t := by
  obtain ⟨-, hn, -⟩ := (argsOk_iff _ _ _).mp ha
  rw [State.hostWrite, if_pos ⟨ha, hw⟩]
  exact
    completes_bind (composeHeader_frame s _ _ _ _) fun _ h =>
    completes_bind (h.header (by simp)) fun _ h =>
    completes_bind (h.header (by simp)) fun _ h =>
    completes_bind (h.header (by simp)) fun _ h =>
    completes_bind (h.header (by simp)) fun _ h =>
    completes_bind (h.windows hn hw) fun _ h =>
      ⟨_, rfl, .of_send _ (h.trans (.of_initiator rfl rfl rfl id)) nofun⟩

/-- Everything a host command can do: a request is composed and sent, the arguments are refused in `C_CONNECTED`, or the
operation is refused before discovery completes (R128, R132 to R136). -/
theorem hostCommand_cases (s : State) (cmd : HostCmd) :
    (∃ t, s.hostCommand cmd = .ok t ∧ SentRequest s t) ∨
    (s.cstate = .connected ∧ s.hostCommand cmd = .ok (s.complete false .badArgs [])) ∨
    s.hostCommand cmd = .ok s.refuseNotConnected := by
  have refused (op : State → Except Fault State) (hc : s.cstate ≠ .connected) :
      s.operation op = .ok s.refuseNotConnected := if_neg hc
  have runs (op : State → Except Fault State) (hc : s.cstate = .connected) : s.operation op = op s := if_pos hc
  cases cmd with
  | connect => exact .inl (connect_sends s)
  | identify =>
    by_cases hc : s.cstate = .connected
    · exact .inl (by rw [State.hostCommand, runs _ hc]; exact hostIdentify_sends s)
    · exact .inr (.inr (refused _ hc))
  | read sector count =>
    by_cases hc : s.cstate = .connected
    · rw [State.hostCommand, runs _ hc]
      by_cases ha : argsOk s.cfg sector count = true
      · exact .inl (hostRead_sends ha)
      · exact .inr (.inl ⟨hc, if_neg ha⟩)
    · exact .inr (.inr (refused _ hc))
  | write sector count w =>
    by_cases hc : s.cstate = .connected
    · rw [State.hostCommand, runs _ hc]
      by_cases ha : argsOk s.cfg sector count = true ∧ w.length = sectorBytes * count
      · exact .inl (hostWrite_sends ha.1 ha.2)
      · exact .inr (.inl ⟨hc, if_neg ha⟩)
    · exact .inr (.inr (refused _ hc))

theorem frame_hostCommand {s t : State} {cmd : HostCmd} (h : s.hostCommand cmd = .ok t) : Frame .initiator s t := by
  rcases hostCommand_cases s cmd with ⟨u, hu, hs⟩ | ⟨-, hu⟩ | hu <;> rw [hu] at h <;> cases h
  · exact hs.frame
  · exact frame_complete _ _ _ _
  · exact .of_initiator rfl rfl rfl id

theorem hostCommand_completes {s : State} (hs : s.InitiatorOk) (hc : s.cstate ≠ .txWait) (cmd : HostCmd) :
    ∃ t, s.hostCommand cmd = .ok t ∧ t.InitiatorOk := by
  rcases hostCommand_cases s cmd with ⟨u, hu, hq⟩ | ⟨hcon, hu⟩ | hu
  · exact ⟨u, hu, hq.initiatorOk⟩
  · exact ⟨_, hu, initiatorOk_complete _ _ _ (by simp [hcon]) (hs.1 hc)⟩
  · exact ⟨_, hu, hs⟩

/-! ### `RESET` (R29, R167) -/

/-- `RESET` loads the reset state, keeping the ports, the numbering of the requests and what was put out. -/
theorem State.doReset_eq (s : State) :
    s.doReset = .ok { State.resetOf s.cfg with
      inputs := s.inputs, reqNo := s.reqNo + resetRequests s.cfg
      outputs := s.outputs ++ resetOutputs s.cfg, prints := s.prints } := by
  unfold State.doReset
  cases hr : s.cfg.role with
  | initiator => simp [State.resetOf, resetTx, resetRState, resetRequests, resetOutputs, announces, hr]
  | responder =>
    cases ha : s.cfg.announceOnInit with
    | true =>
      dsimp only
      rw [State.init_announces]
      · simp [State.resetOf, resetTx, resetRState, resetRequests, resetOutputs, announces, announceTx, hr, ha]
      · exact ha
    | false =>
      dsimp only
      rw [State.init_silent]
      · simp [State.resetOf, resetTx, resetRState, resetRequests, resetOutputs, announces, hr, ha]
      · exact ha

/-- The announce fits every buffer (R122). -/
theorem within_resetTx (c : Config) : (resetTx c).Within c.txbufBytes := by
  have hempty : Memory.empty.Within c.txbufBytes := ⟨Memory.wf_empty, nofun⟩
  unfold resetTx
  split
  · refine hempty.write ?_
    rw [length_announceFrame]
    exact Nat.le_trans (by decide) (txbufBytes_ge c)
  · exact hempty

theorem responderOk_resetOf (c : Config) : (State.resetOf c).ResponderOk := by
  cases ha : announces c with
  | true => exact responderOk_initTxWait (by simp [State.resetOf, resetRState, ha]) rfl
  | false =>
    exact responderOk_idle (by simp [State.resetOf, resetRState, ha]) (by simp [State.resetOf, resetTx, ha]) rfl

theorem initiatorOk_resetOf {c : Config} (hr : c.role = .initiator) : (State.resetOf c).InitiatorOk :=
  initiatorOk_rest (.inl rfl) rfl (by simp [State.resetOf, resetTx, announces, hr])

theorem inv_resetOf {c : Config} (hc : c.wf) : (State.resetOf c).Inv :=
  ⟨hc, within_resetTx c, ⟨rfl, rfl, rfl⟩, fun _ => responderOk_resetOf c, initiatorOk_resetOf⟩

/-! ### One accepted input -/

theorem State.role_of_accepts_host {s : State} {cmd : HostCmd} (h : s.accepts (.host cmd) = true) :
    s.cfg.role = .initiator := by
  cases hr : s.cfg.role with
  | initiator => rfl
  | responder => simp [State.accepts, State.acceptsHost, hr] at h

theorem State.role_of_accepts_timeout {s : State} (h : s.accepts .timeout = true) : s.cfg.role = .initiator :=
  of_decide_eq_true h

/-- What stands at the ports is no register. -/
theorem Frame.of_inputs (ρ : Role) (s : State) (is : List Input) : Frame ρ s { s with inputs := is } :=
  ⟨rfl, rfl, fun _ => rfl, fun _ => rfl, id⟩

theorem frame_offer {s t : State} {rx : List Byte} {f g : State → Except Fault State} (hf : ResponderRule f)
    (hg : InitiatorRule g) (h : s.offer rx f g = .next t) : Frame s.cfg.role s t := by
  rcases s.offer_cases rx f g with ho | ⟨hr, ho⟩ | ⟨hr, -, ho⟩ <;> rw [ho] at h
  · cases h
    exact .of_inputs _ _ _
  · rw [hr]
    exact hf.leaves ((toOutcome_next_iff _ _).mp h)
  · rw [hr]
    exact hg.leaves ((toOutcome_next_iff _ _).mp h)

/-- Taking any accepted input but `RESET` leaves the frame of the block's role. -/
theorem frame_take {s t : State} {i : Input} (ha : s.accepts i = true) (hi : i ≠ .reset) (h : s.take i = .next t) :
    Frame s.cfg.role s t := by
  cases i with
  | reset => exact absurd rfl hi
  | frame rx =>
    obtain ⟨rx', f, g, hf, hg, he⟩ := takeFrame_offers rx
    exact frame_offer hf hg ((he s).symm.trans h)
  | host cmd =>
    rw [State.role_of_accepts_host ha]
    exact frame_hostCommand ((toOutcome_next_iff _ _).mp h)
  | timeout =>
    cases h
    rw [State.role_of_accepts_timeout ha]
    exact frame_timedOut s
  | txAnswer n ok =>
    cases h
    unfold State.takeTxAnswer
    cases hr : s.cfg.role with
    | initiator => exact frame_sent s ok
    | responder =>
      dsimp only
      split
      · exact frame_announced s ok
      · exact frame_transmitted s ok
  | readAnswer n ok d =>
    obtain ⟨-, hr, -⟩ := (State.accepts_readAnswer n ok d).mp ha
    rw [hr]
    exact frame_readAnswered ((toOutcome_next_iff _ _).mp h)
  | writeAnswer n ok =>
    obtain ⟨-, hr, -⟩ := (State.accepts_writeAnswer n ok).mp ha
    rw [hr]
    exact frame_writeAnswered ((toOutcome_next_iff _ _).mp h)

/-- The part of the invariant that speaks of the role `ρ`. -/
abbrev State.RoleOk (ρ : Role) (s : State) : Prop :=
  (ρ = .responder → s.ResponderOk) ∧ (ρ = .initiator → s.InitiatorOk)

/-- The rest of the invariant is kept with the frame. -/
theorem inv_of_frame {s t : State} (hs : s.Inv) (hf : Frame s.cfg.role s t) (ht : t.RoleOk s.cfg.role) : t.Inv := by
  obtain ⟨hwf, htx, hid, -, -⟩ := hs
  have identity : t.idMajor = s.idMajor ∧ t.idMinor = s.idMinor ∧ t.idSectors = s.idSectors := by
    simpa [State.identity] using hf.identity
  obtain ⟨hM, hm, hS⟩ := identity
  refine ⟨hf.cfg ▸ hwf, hf.txOk htx, ?_, ?_⟩
  · rw [State.IdentityOk, hf.cfg, hM, hm, hS]
    exact hid
  · rw [hf.cfg]
    exact ht

/-- A computation that completes in a state of `P` is a step to such a state. -/
theorem next_of_completes {x : Except Fault State} {P : State → Prop} (h : ∃ t, x = .ok t ∧ P t) :
    ∃ t, toOutcome x = .next t ∧ P t := by
  obtain ⟨t, rfl, ht⟩ := h
  exact ⟨t, rfl, ht⟩

theorem next_of_responder {ρ : Role} (hr : ρ = .responder) {x : Except Fault State}
    (h : ∃ t, x = .ok t ∧ t.ResponderOk) : ∃ t, toOutcome x = .next t ∧ t.RoleOk ρ := by
  obtain ⟨t, ht, hok⟩ := next_of_completes h
  exact ⟨t, ht, fun _ => hok, by simp [hr]⟩

theorem next_of_initiator {ρ : Role} (hr : ρ = .initiator) {x : Except Fault State}
    (h : ∃ t, x = .ok t ∧ t.InitiatorOk) : ∃ t, toOutcome x = .next t ∧ t.RoleOk ρ := by
  obtain ⟨t, ht, hok⟩ := next_of_completes h
  exact ⟨t, ht, by simp [hr], fun _ => hok⟩

theorem offer_completes {s : State} (hs : s.Inv) {rx : List Byte} {f g : State → Except Fault State}
    (hf : ResponderRule f) (hg : InitiatorRule g) : ∃ t, s.offer rx f g = .next t ∧ t.RoleOk s.cfg.role := by
  obtain ⟨hwf, -, -, hR, hI⟩ := hs
  rcases s.offer_cases rx f g with ho | ⟨hr, ho⟩ | ⟨hr, hc, ho⟩ <;> rw [ho]
  · exact ⟨_, rfl, hR, hI⟩
  · exact next_of_responder hr (hf.completes hwf.1)
  · exact next_of_initiator hr (hg.completes (hI hr) hc)

/-- In a state of the invariant, taking any accepted input but `RESET` completes and keeps the role's part of it. -/
theorem take_completes {s : State} {i : Input} (hs : s.Inv) (ha : s.accepts i = true) (hi : i ≠ .reset) :
    ∃ t, s.take i = .next t ∧ t.RoleOk s.cfg.role := by
  have hInv := hs
  obtain ⟨-, -, -, hR, hI⟩ := hs
  cases i with
  | reset => exact absurd rfl hi
  | frame rx =>
    obtain ⟨rx', f, g, hf, hg, he⟩ := takeFrame_offers rx
    rw [State.take, he]
    exact offer_completes hInv hf hg
  | host cmd =>
    have hr := State.role_of_accepts_host ha
    obtain ⟨hc, -⟩ := (State.accepts_host_initiator hr cmd).mp ha
    exact next_of_initiator hr (hostCommand_completes (hI hr) hc cmd)
  | timeout =>
    have hr := State.role_of_accepts_timeout ha
    exact next_of_initiator (x := .ok s.timedOut) hr ⟨_, rfl, initiatorOk_timedOut (hI hr)⟩
  | txAnswer n ok =>
    have completes : ∃ t, toOutcome (.ok (s.takeTxAnswer ok)) = .next t ∧ t.RoleOk s.cfg.role := by
      cases hr : s.cfg.role with
      | initiator =>
        obtain ⟨-, hc⟩ := (State.accepts_txAnswer_initiator hr n ok).mp ha
        obtain ⟨-, -, -, -, hk⟩ := hI hr
        rw [State.takeTxAnswer, hr]
        exact next_of_initiator rfl ⟨_, rfl, initiatorOk_sent (hk hc) ok⟩
      | responder =>
        obtain ⟨-, hrx, -⟩ := hR hr
        refine next_of_responder rfl ⟨_, rfl, ?_⟩
        rw [State.takeTxAnswer, hr]
        dsimp only
        split
        · next hi => exact responderOk_idle rfl rfl (hrx (.inr hi))
        · exact responderOk_transmitted s ok
    exact completes
  | readAnswer n ok d =>
    obtain ⟨-, hr, hw⟩ := (State.accepts_readAnswer n ok d).mp ha
    obtain ⟨-, -, hsector, -, -⟩ := hR hr
    obtain ⟨hidx, hcount⟩ := hsector (.inl hw)
    exact next_of_responder hr (readAnswered_completes ok d hidx hcount)
  | writeAnswer n ok =>
    obtain ⟨-, hr, hw⟩ := (State.accepts_writeAnswer n ok).mp ha
    obtain ⟨-, -, hsector, hlen, -⟩ := hR hr
    obtain ⟨hidx, hcount⟩ := hsector (.inr hw)
    exact next_of_responder hr (writeAnswered_completes ok hidx hcount (hlen hw))

/-! ### One step, and a run -/

theorem State.role_of_clearDue {s : State} (h : s.clearDue = true) : s.cfg.role = .responder := by
  simp only [State.clearDue, Bool.and_eq_true, decide_eq_true_eq] at h
  exact h.1

/-- Every step with no `RESET` at the ports leaves the frame of the block's role. -/
theorem frame_step {s t : State} (h : step s = .next t) (hn : .reset ∉ s.inputs) : Frame s.cfg.role s t := by
  rcases step_cases s with ⟨hd, -, he⟩ | ⟨-, he⟩ | ⟨i, rest, ha, -, hmem, he⟩ <;> rw [he] at h
  · cases h
    rw [State.role_of_clearDue hd]
    exact frame_finalClear s
  · cases h
    exact .refl _ _
  · have hi : i ≠ .reset := fun hi => hn (hi ▸ hmem)
    exact (frame_take (s := { s with inputs := rest }) ha hi h).after (.of_inputs _ _ _)

/-- No step writes the configuration (R23). -/
theorem step_cfg {s t : State} (h : step s = .next t) : t.cfg = s.cfg := by
  rcases step_cases s with ⟨-, -, he⟩ | ⟨-, he⟩ | ⟨i, rest, ha, -, -, he⟩ <;> rw [he] at h
  · cases h
    rfl
  · cases h
    rfl
  · by_cases hi : i = .reset
    · subst hi
      rw [State.take, State.doReset_eq] at h
      cases h
      rfl
    · exact (frame_take (s := { s with inputs := rest }) ha hi h).cfg

theorem inv_finalClear {s : State} (hs : s.Inv) (hr : s.cfg.role = .responder) : s.finalClear.Inv :=
  inv_of_frame hs (hr ▸ frame_finalClear s) ⟨fun _ => responderOk_idle rfl rfl rfl, by simp [hr]⟩

theorem inv_doReset {s : State} (hs : s.Inv) : ∃ t, toOutcome s.doReset = .next t ∧ t.Inv :=
  next_of_completes ⟨_, s.doReset_eq, inv_resetOf hs.1⟩

/-- The step lemma: from a state of the invariant a step completes, in a state of the invariant. -/
theorem step_completes {s : State} (hs : s.Inv) : ∃ t, step s = .next t ∧ t.Inv := by
  rcases step_cases s with ⟨hd, -, he⟩ | ⟨-, he⟩ | ⟨i, rest, ha, -, -, he⟩ <;> rw [he]
  · exact ⟨_, rfl, inv_finalClear hs (State.role_of_clearDue hd)⟩
  · exact ⟨s, rfl, hs⟩
  · have hs' : State.Inv { s with inputs := rest } := hs
    by_cases hi : i = .reset
    · subst hi
      exact inv_doReset hs'
    · obtain ⟨t, ht, hok⟩ := take_completes hs' ha hi
      exact ⟨t, ht, inv_of_frame hs' (frame_take ha hi ht) hok⟩

/-- Every run from a state of the invariant stays in it. -/
theorem run_keeps_inv {k : Nat} {s t : State} (hs : s.Inv) (h : Host.Core.run Sys2Proof.core k s = .next t) : t.Inv := by
  refine run_keeps (P := State.Inv) (fun u v hu hv => ?_) hs h
  obtain ⟨w, hw, hInv⟩ := step_completes hu
  rw [hv] at hw
  cases hw
  exact hInv

/-- In the invariant the buffer is clear wherever no transaction is in progress (R20). -/
theorem State.Inv.tx_clear {s : State} (hs : s.Inv)
    (h : (s.cfg.role = .responder ∧ s.rstate = .idle) ∨ (s.cfg.role = .initiator ∧ s.cstate ≠ .txWait)) :
    s.tx = Memory.empty := by
  obtain ⟨-, -, -, hR, hI⟩ := hs
  rcases h with ⟨hr, hidle⟩ | ⟨hr, hc⟩
  · exact (hR hr).1 hidle
  · exact (hI hr).1 hc

/-! ### The statements -/

/-- Settles O11: a final clear, a rest, `RESET` or a rule of the block's role, each of which completes and keeps the
invariant. -/
theorem everyStepCompletesAndKeepsTheInvariant : Obligations.EveryStepCompletesAndKeepsTheInvariant :=
  fun _ hs => step_completes hs

/-- Settles O12: the invariant holds along every run, and says that the buffer is clear. -/
theorem transmitBufferIsZeroBetweenTransactions : Obligations.TransmitBufferIsZeroBetweenTransactions := by
  intro s t k hs hrun hidle a
  rw [(run_keeps_inv hs hrun).tx_clear hidle]
  rfl

/-- Settles O13: `RESET` reloads from the configuration it keeps, and every other step leaves the frame of its role. -/
theorem configurationAndIdentityNeverChange : Obligations.ConfigurationAndIdentityNeverChange := by
  intro s t h
  refine ⟨step_cfg h, fun hn => ?_⟩
  simpa [State.identity] using (frame_step h hn).identity

/-- Settles O14: every step but `RESET` leaves the frame of the block's role. -/
theorem eachRoleWritesOnlyItsOwnRegisters : Obligations.EachRoleWritesOnlyItsOwnRegisters := by
  intro s t h hn
  have hf := frame_step h hn
  refine ⟨fun hr => ?_, fun hr => ?_⟩
  · simpa [State.initiatorRegs] using hf.initiator hr
  · simpa [State.responderRegs] using hf.responder hr

/-- A responder waiting on a collaborator accepts only `RESET` and the answer to its last request (R24, R156). -/
theorem State.accepts_waiting_responder {s : State} {i : Input} (hr : s.cfg.role = .responder) (hi : s.rstate ≠ .idle)
    (ha : s.accepts i = true) :
    i = .reset ∨ (∃ ok, i = .txAnswer s.reqNo ok) ∨ (∃ ok d, i = .readAnswer s.reqNo ok d) ∨
      ∃ ok, i = .writeAnswer s.reqNo ok := by
  cases i with
  | reset => exact .inl rfl
  | frame rx => exact absurd ((State.accepts_frame_responder hr rx).mp ha).2 hi
  | host cmd => simp [State.role_of_accepts_host ha] at hr
  | timeout => simp [State.role_of_accepts_timeout ha] at hr
  | txAnswer n ok =>
    obtain ⟨rfl, -⟩ := (State.accepts_txAnswer_responder hr n ok).mp ha
    exact .inr (.inl ⟨ok, rfl⟩)
  | readAnswer n ok d =>
    obtain ⟨rfl, -, -⟩ := (State.accepts_readAnswer n ok d).mp ha
    exact .inr (.inr (.inl ⟨ok, d, rfl⟩))
  | writeAnswer n ok =>
    obtain ⟨rfl, -, -⟩ := (State.accepts_writeAnswer n ok).mp ha
    exact .inr (.inr (.inr ⟨ok, rfl⟩))

/-- Settles O17: outside `R_DONE` no internal step is due, and no input at the ports is accepted. -/
theorem waitingResponderChangesNothing : Obligations.WaitingResponderChangesNothing := by
  intro s hr hidle hdone hreset htx hread hwrite
  have hd : s.clearDue = false := by simp [State.clearDue, hdone]
  refine step_rests hd fun i hmem => ?_
  by_contra ha
  have ha : s.accepts i = true := by simpa using ha
  rcases State.accepts_waiting_responder hr hidle ha with rfl | ⟨ok, rfl⟩ | ⟨ok, d, rfl⟩ | ⟨ok, rfl⟩
  · exact hreset hmem
  · exact htx ok hmem
  · exact hread ok d hmem
  · exact hwrite ok hmem

/-- A responder announces exactly when it is configured to (R122). -/
theorem announces_iff (c : Config) : announces c = true ↔ c.role = .responder ∧ c.announceOnInit = true := by
  cases hr : c.role <;> simp [announces, hr]

/-- Settles O7, register by register; only what the announce touches depends on the configuration. -/
theorem resetValuesAreThoseOfTheSpec : Obligations.ResetValuesAreThoseOfTheSpec := by
  refine ⟨fun c => ⟨_, rfl, ?_⟩, rfl⟩
  have hsectors : resetSectors c = if c.role = .responder then c.cfgSectors else 0#64 := by
    cases hr : c.role <;> simp [resetSectors, hr]
  have hrstate : resetRState c =
      if c.role = .responder ∧ c.announceOnInit = true then .initTxWait else .idle := by
    simp only [resetRState, announces_iff]
  have hsilent (hn : ¬ (c.role = .responder ∧ c.announceOnInit = true)) : announces c = false := by
    rwa [Bool.eq_false_iff, Ne, announces_iff]
  refine ⟨rfl, rfl, hsectors, hrstate, rfl, rfl, rfl, rfl, rfl, rfl, rfl, rfl, rfl, rfl, rfl, rfl, rfl, rfl, rfl, rfl,
    rfl, rfl, rfl, rfl, fun hn => ?_⟩
  simp [State.resetOf, resetTx, resetOutputs, hsilent hn]

/-- Settles O10, the standard configuration being one that R7 allows. -/
theorem resetSatisfiesTheInvariant : Obligations.ResetSatisfiesTheInvariant :=
  ⟨fun _ hc => inv_resetOf hc, inv_resetOf (by decide)⟩

/-- A block that accepts a frame owes no final clear (R24). -/
theorem State.clearDue_of_acceptsFrame {s : State} {rx : List Byte} (ha : s.accepts (.frame rx) = true) :
    s.clearDue = false := by
  by_contra hd
  have hd : s.clearDue = true := by simpa using hd
  obtain ⟨-, hidle⟩ := (State.accepts_frame_responder (State.role_of_clearDue hd) rx).mp ha
  simp [State.clearDue, hidle] at hd

/-- Settles O19: the step takes the frame, and the decoder names its form. -/
theorem stepRunsTheDecodedFrame : Obligations.StepRunsTheDecodedFrame := by
  intro s pre rest rx i hs hpre ha hdec
  rw [step_takes (State.clearDue_of_acceptsFrame ha) hs hpre ha, State.take, State.takeFrame, hdec]

/-- Settles O20: every form offers its frame, and an offer that is not accepted holds it. -/
theorem frameNotAcceptedStaysAtItsPort : Obligations.FrameNotAcceptedStaysAtItsPort := by
  intro i s ha
  obtain ⟨f, g, -, -, he⟩ := exec_offers i
  rw [he, State.offer_held ha]
  rfl

end Sys2Proof.Machine

/-! ## The memory: what the bit-field setters keep, and what a step puts out

`Puts P s t` says what every rule puts out, of either role and in any state: at most one event, numbered if it is a
request, and under `P` a transmit request only of what `t` has composed. `P` is `True` for a responder's rule for a
frame, `False` for an initiator's rule, whose requests are no responses, and for a step it is that the block is a
responder in its part of the invariant. Each shared operation is shown to be such a rule; the eight forms of the opcode
table and the statements about every step follow. -/

namespace Sys2Proof.Machine

open Sys2Proof

/-! ### The bit-field setters (R40) -/

/-- The byte that a setter wrote. -/
theorem Memory.read_write_byte (m : Memory) (a : Nat) (b : Byte) : (m.write a [b]).read a = b := by
  rw [Memory.read_write_inside (Nat.le_refl a) (by simp), Nat.sub_self]
  rfl

theorem getLsbD_setBit_ne {b : Byte} {k i : Nat} (v : Bool) (hi : i < 8) (hk : i ≠ k) :
    (setBit b k v).getLsbD i = b.getLsbD i := by rw [getLsbD_setBit b k v i hi, if_neg hk]

/-- Settles O6: each setter writes its one byte, which keeps the bits outside the field. -/
theorem bitFieldSettersKeepTheOtherBits : Obligations.BitFieldSettersKeepTheOtherBits := by
  intro s v f
  refine ⟨⟨_, s.setAoeVer_eq v, fun k hk => ?_⟩, ⟨_, s.setAoeFlagResponse_eq f, fun k hk hne => ?_⟩,
    ⟨_, s.setAoeFlagError_eq f, fun k hk hne => ?_⟩, ⟨_, s.setQAoeVer_eq v, fun k hk => ?_⟩,
    ⟨_, s.setQCcmd_eq v, fun k hlo hk => ?_⟩, ⟨_, s.setIDeviceReady_eq f, fun k hk hne => ?_⟩,
    ⟨_, s.setIStatusError_eq f, fun k hk hne => ?_⟩⟩ <;> rw [Memory.read_write_byte]
  · exact getLsbD_withVer_low _ v k hk
  · exact getLsbD_setBit_ne f hk hne
  · exact getLsbD_setBit_ne f hk hne
  · exact getLsbD_withAoeVer_low _ v k hk
  · exact getLsbD_withCcmd_high _ v k hlo hk
  · exact getLsbD_setBit_ne f hk hne
  · exact getLsbD_setBit_ne f hk hne

/-! ### What a rule puts out (R25, R27, R44) -/

/-- The lengths of a composed response (R124). -/
def ResponseLength (c : Config) (len : Nat) : Prop := len = 32 ∨ len = 548 ∨ ∃ n, n ≤ c.maxSectors ∧ len = 36 + 512 * n

/-- A transmit request carries the buffer of `t` from 0 on, and `t` waits for the answer to it: a composed response
(R118) or the announce (R122). -/
def State.Transmits (c : Config) (t : State) (bs : List Byte) (len timeout : Nat) : Prop :=
  bs = t.tx.readRange 0 len ∧ timeout = c.txTimeout ∧
  ((t.rstate = .txWait ∧ t.rspValid = true ∧ t.rspLen.toNat = len ∧ ResponseLength c len) ∨
   (t.rstate = .initTxWait ∧ len = 32))

/-- What a rule puts out from `s` to `t`: at most one event, numbered if it is a request, and under `P` a transmit
request only of what `t` has composed. -/
def Puts (P : Prop) (s t : State) : Prop :=
  ∃ es : List Output, t.outputs = s.outputs ++ es ∧ es.length ≤ 1 ∧
    t.reqNo = s.reqNo + (es.filter Output.isRequest).length ∧
    (P → ∀ bs len timeout, .txReq bs len timeout ∈ es → t.Transmits s.cfg bs len timeout)

/-- What `Puts` reads of the state before is the same in `u` as in `s`. -/
structure Quiet (s u : State) : Prop where
  outputs : u.outputs = s.outputs
  reqNo   : u.reqNo = s.reqNo
  cfg     : u.cfg = s.cfg

/-- A rule of either role that puts out what `Puts` allows, wherever it completes. -/
abbrev Emits (P : Prop) (f : State → Except Fault State) : Prop := ∀ ⦃s t : State⦄, f s = .ok t → Puts P s t

section
variable {P Q : Prop} {s t u : State}

theorem Quiet.of_txWrite {acc : Accessor} {o : Nat} {bs : List Byte} (h : s.txWrite acc o bs = .ok u) : Quiet s u := by
  obtain ⟨-, rfl⟩ := State.txWrite_cases h
  exact ⟨rfl, rfl, rfl⟩

theorem Puts.mono (h : Puts P s t) (hQ : Q → P) : Puts Q s t := by
  obtain ⟨es, ho, hl, hr, ht⟩ := h
  exact ⟨es, ho, hl, hr, fun q => ht (hQ q)⟩

theorem Puts.after (h : Puts P u t) (hq : Quiet s u) : Puts P s t := by
  obtain ⟨es, ho, hl, hr, ht⟩ := h
  rw [hq.outputs] at ho
  rw [hq.reqNo] at hr
  rw [hq.cfg] at ht
  exact ⟨es, ho, hl, hr, ht⟩

theorem Puts.nothing (hq : Quiet s t) : Puts P s t := ⟨[], by simp [hq.outputs], Nat.zero_le _, hq.reqNo, nofun⟩

theorem Puts.event {e : Output} (ho : t.outputs = s.outputs ++ [e])
    (hr : t.reqNo = s.reqNo + ([e].filter Output.isRequest).length)
    (ht : P → ∀ bs len timeout, e = .txReq bs len timeout → t.Transmits s.cfg bs len timeout) : Puts P s t :=
  ⟨[e], ho, Nat.le_refl _, hr, fun hp bs len timeout hm => ht hp bs len timeout (List.mem_singleton.mp hm).symm⟩

/-- A quiet first part of a computation, then a part that puts out what it may. -/
theorem Puts.of_bind {x : Except Fault State} {f : State → Except Fault State} (h : x >>= f = .ok t)
    (hx : ∀ {u}, x = .ok u → Quiet s u) (hf : ∀ {u}, f u = .ok t → Puts P u t) : Puts P s t := by
  obtain ⟨u, hu, h⟩ := bind_completes h
  exact (hf h).after (hx hu)

end

/-! ### The responder's operations -/

theorem puts_respond {P : Prop} (s : State) {len : Nat} (hl : len < 2 ^ 18) (hr : P → ResponseLength s.cfg len) :
    Puts P s (s.respond len) := by
  rw [State.respond_eq hl]
  refine .event rfl rfl fun hp bs n timeout he => ?_
  cases he
  have hlen : (BitVec.ofNat 18 len).toNat = len := by rw [BitVec.toNat_ofNat, Nat.mod_eq_of_lt hl]
  exact ⟨rfl, rfl, .inl ⟨rfl, rfl, hlen, hr hp⟩⟩

/-- A response of the Issue headers and a number of sectors within the limit (R124). -/
theorem responseLength_sectors {c : Config} {n : Nat} (hn : n ≤ c.maxSectors) : ResponseLength c (36 + 512 * n) :=
  .inr (.inr ⟨n, hn, rfl⟩)

theorem puts_drop {P : Prop} (s : State) (code : RCode) : Puts P s (s.drop code) := .nothing ⟨rfl, rfl, rfl⟩

theorem puts_storageFail {P : Prop} (code : RCode) (kind : PrintKind) : Emits P (State.storageFail code kind) := by
  intro s t h
  rw [State.storageFail_eq] at h
  cases h
  exact .nothing ⟨rfl, rfl, rfl⟩

theorem puts_readNext {P : Prop} {s t : State} (h : s.readNext = .ok t) (hc : P → s.tCount.toNat ≤ s.cfg.maxSectors) :
    Puts P s t := by
  by_cases hd : s.tIdx.toNat = s.tCount.toNat
  · rw [State.readNext_done hd] at h
    cases h
    have hl : 36 + 512 * s.tCount.toNat < 2 ^ 18 := by have := s.tCount.isLt; omega
    exact (puts_respond { s with tx := drdyTx s.tx } hl fun hp => responseLength_sectors (hc hp)).after ⟨rfl, rfl, rfl⟩
  · rw [State.readNext_more hd] at h
    cases h
    exact .event rfl rfl fun _ => nofun

theorem puts_readAnswered {P : Prop} {s t : State} {ok : Bool} {d : Sector}
    (h : s.readAnswered ok d = .ok t) (hc : P → s.tCount.toNat ≤ s.cfg.maxSectors) : Puts P s t := by
  obtain ⟨u, hu, h⟩ := bind_completes h
  obtain ⟨-, rfl⟩ := State.txWrite_cases hu
  cases ok with
  | true => exact (puts_readNext h hc).after ⟨rfl, rfl, rfl⟩
  | false => exact (puts_storageFail _ _ h).after ⟨rfl, rfl, rfl⟩

theorem puts_writeNext {P : Prop} : Emits P State.writeNext := by
  intro s t h
  by_cases hd : s.tIdx.toNat = s.tCount.toNat
  · rw [State.writeNext_done hd] at h
    cases h
    exact (puts_respond _ (by decide) fun _ => responseLength_sectors (Nat.zero_le _)).after ⟨rfl, rfl, rfl⟩
  · have hs : s.sectorsDone = false := by rw [Bool.eq_false_iff, Ne, s.sectorsDone_iff]; exact hd
    simp only [State.writeNext, hs, Bool.false_eq_true, if_false] at h
    obtain ⟨d, -, h⟩ := bind_completes h
    cases h
    exact .event rfl rfl fun _ => nofun

theorem puts_writeAnswered {P : Prop} (ok : Bool) : Emits P (State.writeAnswered ok) := by
  intro s t h
  cases ok with
  | true =>
    rw [State.writeAnswered_ok] at h
    exact (puts_writeNext h).after ⟨rfl, rfl, rfl⟩
  | false =>
    rw [State.writeAnswered_fail] at h
    exact puts_storageFail _ _ h

/-! ### The responder's rules for a frame -/

theorem puts_queryConfig : Emits True State.queryConfig := by
  intro s t h
  rw [State.queryConfig_eq] at h
  cases h
  exact (puts_respond _ (by decide) fun _ => .inl rfl).after ⟨rfl, rfl, rfl⟩

theorem puts_identify : Emits True State.identify := fun _ _ h =>
  .of_bind h .of_txWrite fun h => .of_bind h .of_txWrite fun h => by
    cases h
    exact puts_respond _ (by decide) fun _ => .inr (.inl rfl)

theorem puts_readStart (sub : IssueSub) : Emits True (State.readStart sub) := by
  intro s t h
  simp only [State.readStart] at h
  split at h
  · cases h
    exact .nothing ⟨rfl, rfl, rfl⟩
  · next hc => exact (puts_readNext h fun _ => Nat.le_of_not_lt hc).after ⟨rfl, rfl, rfl⟩

theorem puts_writeStart (sub : IssueSub) : Emits True (State.writeStart sub) := by
  intro s t h
  simp only [State.writeStart] at h
  split at h
  · cases h
    exact .nothing ⟨rfl, rfl, rfl⟩
  · split at h
    · cases h
      exact .nothing ⟨rfl, rfl, rfl⟩
    · exact (puts_writeNext h).after ⟨rfl, rfl, rfl⟩

theorem puts_issue {P : Prop} {form : State → Except Fault State} (ata : Byte) (hf : Emits P form) :
    Emits P (State.issue ata form) := fun s _ h =>
  (hf (s := { s with tAta := ata }) h).after ⟨rfl, rfl, rfl⟩

/-- A rule that only drops the frame (R153). -/
theorem puts_dropping {P : Prop} {g : State → State} (hg : ∀ s, Quiet s (g s)) (code : RCode) :
    Emits P (fun s => .ok ((g s).drop code)) := by
  intro s t h
  cases h
  exact (puts_drop _ _).after (hg s)

theorem puts_ataUnsupported : Emits True State.ataUnsupported :=
  puts_dropping (g := State.print .unsupportedAtaCmd) (fun _ => ⟨rfl, rfl, rfl⟩) .dropAtaCmd

theorem puts_aoeUnsupported : Emits True State.aoeUnsupported :=
  puts_dropping (g := State.print .unsupportedAoeCmd) (fun _ => ⟨rfl, rfl, rfl⟩) .dropAoeCmd

/-- A rule that changes nothing. -/
theorem puts_ok {P : Prop} : Emits P .ok := by
  intro s t h
  cases h
  exact .nothing ⟨rfl, rfl, rfl⟩

theorem quiet_inTransaction (s : State) (rx : List Byte) (cmd ata : Byte) (lba : BitVec 24) (count : Byte) (m : Memory) :
    Quiet s { s.inTransaction rx cmd ata lba count with tx := m } := ⟨rfl, rfl, rfl⟩

/-- The accepting step: the validation's drop, or the form's own rule on the seeded buffer (R98). -/
theorem puts_accept {P : Prop} {form : State → Except Fault State} (f : Bool) (cmd : Byte) (h : Header) (rx : List Byte)
    (hf : Emits P form) : Emits P (State.accept f cmd h rx form) := by
  intro s t ht
  cases hv : s.validate f h with
  | some code =>
    rw [State.accept_drop hv] at ht
    cases ht
    exact (puts_drop _ _).after ⟨rfl, rfl, rfl⟩
  | none =>
    rw [State.accept_ok hv] at ht
    exact (hf ht).after (quiet_inTransaction _ _ _ _ _ _ _)

/-- A frame without a form (R98, R103). -/
theorem puts_acceptUndecoded (e : DecodeError) (rx : List Byte) : Emits True (State.acceptUndecoded e rx) := by
  cases e with
  | shortFrame => exact puts_dropping (g := State.latch rx) (fun _ => ⟨rfl, rfl, rfl⟩) .dropShort
  | shortIssue h => exact puts_accept _ _ _ _ (puts_dropping (g := id) (fun _ => ⟨rfl, rfl, rfl⟩) .dropIssueShort)
  | noRow h c => exact puts_accept _ _ _ _ puts_ok

/-! ### The initiator's operations -/

theorem puts_complete (s : State) (r : Bool) (c : CCode) (d : List Byte) : Puts False s (s.complete r c d) :=
  .event rfl rfl nofun

theorem puts_send (s : State) (len : Nat) : Puts False s (s.send len) := .event rfl rfl nofun

theorem puts_stray : Emits False (fun s => .ok s.stray) := by
  intro s t h
  cases h
  rcases stray_cases s with h | h | ⟨-, h⟩ <;> rw [h]
  · exact .nothing ⟨rfl, rfl, rfl⟩
  · exact .nothing ⟨rfl, rfl, rfl⟩
  · exact puts_complete _ _ _ _

/-- A frame that an initiator takes is discarded, decoded or a stray (R127, R137). -/
theorem puts_receive (isMatch : State → Bool) {decoded : State → Except Fault State} (hd : Emits False decoded) :
    Emits False (fun s => s.receive (isMatch s) decoded) := by
  intro s t h
  simp only [State.receive] at h
  split at h
  · split at h
    · exact hd h
    · exact puts_stray h
  · exact puts_ok h

theorem puts_ataAnswered (h : Header) (rx : List Byte) : Emits False (State.ataAnswered h rx) := by
  intro s t ht
  rcases ataAnswered_cases h rx s with hk | ⟨-, cap, r, c, d, hk⟩ <;> rw [hk] at ht <;> cases ht
  · exact .nothing ⟨rfl, rfl, rfl⟩
  · exact (puts_complete _ _ _ _).after ⟨rfl, rfl, rfl⟩

theorem puts_queryAnswered (h : Header) : Emits False (fun s => .ok (s.queryAnswered h)) := by
  intro s t ht
  cases ht
  unfold State.queryAnswered
  split <;> exact .nothing ⟨rfl, rfl, rfl⟩

theorem puts_timedOut (s : State) : Puts False s s.timedOut := by
  unfold State.timedOut
  split
  · exact puts_complete _ _ _ _
  · exact .nothing ⟨rfl, rfl, rfl⟩
  · exact .nothing ⟨rfl, rfl, rfl⟩

/-- The transmit answer reports the end of a CONNECT or of a failed operation, and nothing else (R131 to R135). -/
theorem puts_sent (s : State) (ok : Bool) : Puts False s (s.sent ok) := by
  have operation (ho : s.opKind = .identify ∨ s.opKind = .read ∨ s.opKind = .write) : Puts False s (s.sent ok) := by
    obtain ⟨ht, hf⟩ := State.sent_operation ho
    cases ok with
    | true => rw [ht]; exact .nothing ⟨rfl, rfl, rfl⟩
    | false => rw [hf]; exact (puts_complete _ _ _ _).after ⟨rfl, rfl, rfl⟩
  cases hk : s.opKind with
  | none =>
    simp only [State.sent, State.clearTx_opKind, hk]
    exact .nothing ⟨rfl, rfl, rfl⟩
  | identify => exact operation (.inl hk)
  | read => exact operation (.inr (.inl hk))
  | write => exact operation (.inr (.inr hk))
  | query =>
    cases ok <;> simp only [State.sent, State.clearTx_opKind, hk] <;> exact .event rfl rfl nofun

/-! ### The host's commands -/

theorem quiet_composeHeader {s u : State} {dst : Mac} {major : BitVec 16} {minor cmd : Byte}
    (h : s.composeHeader dst major minor cmd = .ok u) : Quiet s u := by
  rw [State.composeHeader_eq] at h
  cases h
  exact ⟨rfl, rfl, rfl⟩

theorem quiet_setWindows {n k : Nat} {w : List Byte} {s u : State} (h : State.setWindows n k w s = .ok u) :
    Quiet s u := by
  induction n generalizing k w s with
  | zero =>
    cases h
    exact ⟨rfl, rfl, rfl⟩
  | succ n ih =>
    obtain ⟨v, hv, h⟩ := bind_completes h
    obtain ⟨-, rfl⟩ := State.txWrite_cases hv
    obtain ⟨ho, hr, hc⟩ := ih h
    exact ⟨ho, hr, hc⟩

/-- The end of a host command: the request's latches are set and it goes out (R131). -/
theorem puts_sending {s t u : State} {len : Nat} (h : pure (u.send len) = (.ok t : Except Fault State))
    (hq : Quiet s u) : Puts False s t := by
  cases h
  exact (puts_send _ _).after hq

theorem puts_connect : Emits False State.connect := fun _ _ h =>
  .of_bind h quiet_composeHeader fun h => puts_sending h ⟨rfl, rfl, rfl⟩

theorem puts_hostIdentify : Emits False State.hostIdentify := fun _ _ h =>
  .of_bind h quiet_composeHeader fun h => .of_bind h .of_txWrite fun h => .of_bind h .of_txWrite fun h =>
    puts_sending h ⟨rfl, rfl, rfl⟩

theorem puts_hostRead (sector count : Nat) : Emits False (State.hostRead sector count) := by
  intro s t h
  unfold State.hostRead at h
  split at h
  · exact .of_bind h quiet_composeHeader fun h => .of_bind h .of_txWrite fun h => .of_bind h .of_txWrite fun h =>
      .of_bind h .of_txWrite fun h => puts_sending h ⟨rfl, rfl, rfl⟩
  · cases h
    exact puts_complete _ _ _ _

theorem puts_hostWrite (sector count : Nat) (w : List Byte) : Emits False (State.hostWrite sector count w) := by
  intro s t h
  unfold State.hostWrite at h
  split at h
  · exact .of_bind h quiet_composeHeader fun h => .of_bind h .of_txWrite fun h => .of_bind h .of_txWrite fun h =>
      .of_bind h .of_txWrite fun h => .of_bind h .of_txWrite fun h => .of_bind h quiet_setWindows fun h =>
        puts_sending h ⟨rfl, rfl, rfl⟩
  · cases h
    exact puts_complete _ _ _ _

/-- An operation before discovery completes reports its refusal (R128). -/
theorem puts_operation {op : State → Except Fault State} (hop : Emits False op) : Emits False (State.operation op) := by
  intro s t h
  unfold State.operation at h
  split at h
  · exact hop h
  · cases h
    exact .event rfl rfl nofun

theorem puts_hostCommand (cmd : HostCmd) : Emits False (State.hostCommand cmd) := by
  intro s t h
  cases cmd with
  | connect => exact puts_connect h
  | identify => exact puts_operation puts_hostIdentify h
  | read sector count => exact puts_operation (puts_hostRead sector count) h
  | write sector count w => exact puts_operation (puts_hostWrite sector count w) h

/-! ### A frame, whatever its form -/

/-- Every form of the opcode table offers its frame to one rule of each role. -/
theorem exec_emits (i : Instr) :
    ∃ f g, Emits True f ∧ Emits False g ∧ ∀ s, exec i s = s.offer (encode i) f g := by
  cases i with
  | queryConfig h q =>
    exact ⟨_, _, puts_accept _ _ _ _ puts_queryConfig, puts_receive _ puts_ok, fun _ => rfl⟩
  | ataIdentify h sub data =>
    exact ⟨_, _, puts_accept _ _ _ _ (puts_issue _ puts_identify), puts_receive _ puts_ok, fun _ => rfl⟩
  | ataReadRetry h sub data =>
    exact ⟨_, _, puts_accept _ _ _ _ (puts_issue _ (puts_readStart sub)), puts_receive _ puts_ok, fun _ => rfl⟩
  | ataWriteRetry h sub data =>
    exact ⟨_, _, puts_accept _ _ _ _ (puts_issue _ (puts_writeStart sub)), puts_receive _ puts_ok, fun _ => rfl⟩
  | ataUnsupported h ata sub data =>
    exact ⟨_, _, puts_accept _ _ _ _ (puts_issue ata puts_ataUnsupported), puts_receive _ puts_ok, fun _ => rfl⟩
  | aoeUnsupported h command payload =>
    exact ⟨_, _, puts_accept _ _ _ _ puts_aoeUnsupported, puts_receive _ puts_ok, fun _ => rfl⟩
  | queryResponse h q =>
    exact ⟨_, _, puts_accept _ _ _ _ puts_ok, puts_receive _ (puts_queryAnswered h), fun _ => rfl⟩
  | ataResponse h r =>
    exact ⟨_, _, puts_accept _ _ _ _ puts_ok, puts_receive _ (puts_ataAnswered h _), fun _ => rfl⟩

/-- A frame that is taken is offered to one rule of each role, whether or not it has a form. -/
theorem takeFrame_emits (rx : List Byte) :
    ∃ rx' f g, Emits True f ∧ Emits False g ∧ ∀ s : State, s.takeFrame rx = s.offer rx' f g := by
  unfold State.takeFrame
  cases decode rx with
  | ok i =>
    obtain ⟨f, g, hf, hg, he⟩ := exec_emits i
    exact ⟨_, f, g, hf, hg, he⟩
  | error e => exact ⟨_, _, _, puts_acceptUndecoded e rx, puts_receive (fun _ => false) puts_ok, fun _ => rfl⟩

/-! ### One accepted input, and a step -/

/-- When the rules of a step transmit only what they composed: a RESPONDER in its part of the invariant. -/
abbrev State.Composes (s : State) : Prop := s.cfg.role = .responder ∧ s.ResponderOk

/-- What a rule of an INITIATOR puts out, which never composes as a responder. -/
theorem Puts.of_initiator {s t : State} (h : Puts False s t) (hr : s.cfg.role = .initiator) : Puts s.Composes s t :=
  h.mono fun ⟨hr', _⟩ => by simp [hr] at hr'

theorem puts_offer {s t : State} {rx : List Byte} {f g : State → Except Fault State} (hf : Emits True f)
    (hg : Emits False g) (h : s.offer rx f g = .next t) : Puts s.Composes s t := by
  rcases s.offer_cases rx f g with ho | ⟨-, ho⟩ | ⟨hr, -, ho⟩ <;> rw [ho] at h
  · cases h
    exact .nothing ⟨rfl, rfl, rfl⟩
  · exact (hf ((toOutcome_next_iff _ _).mp h)).mono fun _ => trivial
  · exact (hg ((toOutcome_next_iff _ _).mp h)).of_initiator hr

/-- `RESET` puts out the announce or nothing (R122, R168). -/
theorem puts_doReset {P : Prop} : Emits P State.doReset := by
  intro s t h
  rw [State.doReset_eq] at h
  cases h
  cases ha : announces s.cfg with
  | false => exact .nothing ⟨by simp [resetOutputs, ha], by simp [resetRequests, ha], rfl⟩
  | true =>
    have hout : resetOutputs s.cfg = [.txReq announceFrame 32 s.cfg.txTimeout] := if_pos ha
    have hreq : resetRequests s.cfg = 1 := if_pos ha
    have hwait : resetRState s.cfg = .initTxWait := if_pos ha
    have htx : resetTx s.cfg = announceTx := if_pos ha
    refine .event (congrArg (s.outputs ++ ·) hout) (congrArg (s.reqNo + ·) hreq) fun _ bs len timeout he => ?_
    cases he
    exact ⟨(htx ▸ announceTx_readRange).symm, rfl, .inr ⟨hwait, rfl⟩⟩

theorem puts_take {s t : State} {i : Input} (ha : s.accepts i = true) (h : s.take i = .next t) :
    Puts s.Composes s t := by
  cases i with
  | reset => exact puts_doReset ((toOutcome_next_iff _ _).mp h)
  | frame rx =>
    obtain ⟨rx', f, g, hf, hg, he⟩ := takeFrame_emits rx
    exact puts_offer hf hg ((he s).symm.trans h)
  | host cmd =>
    exact (puts_hostCommand cmd ((toOutcome_next_iff _ _).mp h)).of_initiator (State.role_of_accepts_host ha)
  | timeout =>
    cases h
    exact (puts_timedOut s).of_initiator (State.role_of_accepts_timeout ha)
  | txAnswer n ok =>
    cases h
    unfold State.takeTxAnswer
    cases hr : s.cfg.role with
    | initiator => exact (puts_sent s ok).of_initiator hr
    | responder =>
      dsimp only
      split
      · exact .nothing ⟨rfl, rfl, rfl⟩
      · cases ok <;> exact .nothing ⟨rfl, rfl, rfl⟩
  | readAnswer n ok d =>
    obtain ⟨-, -, hw⟩ := (State.accepts_readAnswer n ok d).mp ha
    exact puts_readAnswered ((toOutcome_next_iff _ _).mp h) fun ⟨_, hok⟩ => by
      obtain ⟨-, -, hsector, -, -⟩ := hok
      exact (hsector (.inl hw)).2
  | writeAnswer n ok => exact puts_writeAnswered ok ((toOutcome_next_iff _ _).mp h)

/-- Everything a step puts out, in any state. -/
theorem puts_step {s t : State} (h : step s = .next t) : Puts s.Composes s t := by
  rcases step_cases s with ⟨-, -, he⟩ | ⟨-, he⟩ | ⟨i, rest, ha, -, -, he⟩ <;> rw [he] at h
  · cases h
    exact .nothing ⟨rfl, rfl, rfl⟩
  · cases h
    exact .nothing ⟨rfl, rfl, rfl⟩
  · exact (puts_take (s := { s with inputs := rest }) ha h).after ⟨rfl, rfl, rfl⟩

/-! ### The statements -/

/-- Settles O15: a step puts out at most one event, and so at most one request. -/
theorem stepIssuesAtMostOneRequest : Obligations.StepIssuesAtMostOneRequest := by
  intro s t h
  obtain ⟨es, ho, hl, hr, -⟩ := puts_step h
  exact ⟨es, ho, (List.length_filter_le _ _).trans hl, hr⟩

/-- Settles O16: a responder of the invariant waits for a read only within the sector limit, so the length of every
response it sends is one of R124. -/
theorem responderTransmitsOnlyWhatItComposed : Obligations.ResponderTransmitsOnlyWhatItComposed := by
  intro s t hs hr h es bs len timeout hes hmem
  obtain ⟨-, -, -, hR, -⟩ := hs
  obtain ⟨es', ho, -, -, ht⟩ := puts_step h
  have heq : es = es' := List.append_cancel_left (hes.symm.trans ho)
  subst heq
  exact ht ⟨hr, hR hr⟩ bs len timeout hmem

end Sys2Proof.Machine

/-! ## The encoding: what the decoder answers, and what the encoder gives back

A frame of at least 24 bytes is an encoded header and the rest of its bytes (`exists_header`), and
`decode_encodeHeader` says what the decoder answers on such a frame, one branch per row of the opcode table (R61). Both
directions of the round trip and the agreement with the table go through that one equation. -/

namespace Sys2Proof

/-! ### Decoding an encoded header -/

/-- What the decoder answers on a header and the bytes after it (R61). -/
theorem decode_encodeHeader (f : Bool) (c : Byte) (h : Header) (t : List Byte) :
    decode (encodeHeader f c h ++ t) =
      if f then
        if c = aoeCmdQuery then .ok (.queryResponse h (queryTailOf (encodeHeader f c h ++ t)))
        else if c = aoeCmdIssue then .ok (.ataResponse h (issueTailOf (encodeHeader f c h ++ t)))
        else .error (.noRow h c)
      else if c = aoeCmdQuery then .ok (.queryConfig h (queryTailOf (encodeHeader f c h ++ t)))
      else if c = aoeCmdIssue then
        if t.length < 12 then .error (.shortIssue h) else .ok (decodeIssue (encodeHeader f c h ++ t))
      else .ok (.aoeUnsupported h c t) := by
  have hlen : (encodeHeader f c h ++ t).length = 24 + t.length := by simp
  have h24 : ¬ (encodeHeader f c h ++ t).length < aoeHeaderBytes := by rw [hlen]; simp
  have h36 : (encodeHeader f c h ++ t).length < issueHdrBytes ↔ t.length < 12 := by
    rw [hlen]; simp only [issueHdrBytes]; omega
  simp only [decode, if_neg h24, aoeFlagResponseOf_encodeHeader, aoeCommandOf_encodeHeader, headerOf_encodeHeader, h36,
    aoeHeaderBytes, drop_encodeHeader]

/-- What the decoder answers on an Issue request that holds its whole sub-header (R103). -/
theorem decodeIssue_encode (h : Header) (ata : Byte) (sub : IssueSub) (data : List Byte) :
    decodeIssue (encodeHeader false aoeCmdIssue h ++ (encodeIssueSub ata sub ++ data)) =
      if ata = ataCmdIdentify then .ataIdentify h sub data
      else if ata = ataCmdRead then .ataReadRetry h sub data
      else if ata = ataCmdWrite then .ataWriteRetry h sub data
      else .ataUnsupported h ata sub data := by
  simp only [decodeIssue, iCmdStatusOf_encode, headerOf_encodeHeader, issueSubOf_encode, issueHdrBytes,
    drop_encodeIssueSub]

theorem decode_encodeIssue (h : Header) (ata : Byte) (sub : IssueSub) (data : List Byte) :
    decode (encodeHeader false aoeCmdIssue h ++ (encodeIssueSub ata sub ++ data)) =
      .ok (decodeIssue (encodeHeader false aoeCmdIssue h ++ (encodeIssueSub ata sub ++ data))) := by
  have ht : ¬ (encodeIssueSub ata sub ++ data).length < 12 := by simp
  rw [decode_encodeHeader, if_neg (by decide), if_neg (by decide), if_pos rfl, if_neg ht]

/-! ### The tails, both ways round -/

theorem queryTailOf_encode (f : Bool) (c : Byte) (h : Header) {q : QueryTail} (hq : q.wellFormed = true) :
    queryTailOf (encodeHeader f c h ++ encodeQueryTail q) = q := by
  cases q with
  | short bytes =>
    have hshort : (encodeHeader f c h ++ bytes).length < queryRspBytes := by
      have : bytes.length < 8 := by simpa [QueryTail.wellFormed] using hq
      simp only [List.length_append, length_encodeHeader, queryRspBytes]; omega
    simp only [queryTailOf, encodeQueryTail, if_pos hshort, aoeHeaderBytes, drop_encodeHeader]
  | full sub rest =>
    have hfull : ¬ (encodeHeader f c h ++ (encodeQuerySub sub ++ rest)).length < queryRspBytes := by
      simp only [List.length_append, length_encodeHeader, length_encodeQuerySub, queryRspBytes]; omega
    simp only [queryTailOf, encodeQueryTail, if_neg hfull, querySubOf_encode, queryRspBytes, drop_encodeQuerySub]

theorem issueTailOf_encode (f : Bool) (c : Byte) (h : Header) {r : IssueTail} (hr : r.wellFormed = true) :
    issueTailOf (encodeHeader f c h ++ encodeIssueTail r) = r := by
  cases r with
  | short bytes =>
    have hshort : (encodeHeader f c h ++ bytes).length < issueHdrBytes := by
      have : bytes.length < 12 := by simpa [IssueTail.wellFormed] using hr
      simp only [List.length_append, length_encodeHeader, issueHdrBytes]; omega
    simp only [issueTailOf, encodeIssueTail, if_pos hshort, aoeHeaderBytes, drop_encodeHeader]
  | full status sub data =>
    have hfull : ¬ (encodeHeader f c h ++ (encodeIssueSub status sub ++ data)).length < issueHdrBytes := by
      rw [length_encodeIssue]; simp only [issueHdrBytes]; omega
    simp only [issueTailOf, encodeIssueTail, if_neg hfull, iCmdStatusOf_encode, issueSubOf_encode, issueHdrBytes,
      drop_encodeIssueSub]

theorem encodeQueryTail_queryTailOf (f : Bool) (c : Byte) (h : Header) (t : List Byte) :
    encodeQueryTail (queryTailOf (encodeHeader f c h ++ t)) = t ∧
      (queryTailOf (encodeHeader f c h ++ t)).wellFormed = true := by
  have hlen : (encodeHeader f c h ++ t).length = 24 + t.length := by simp
  unfold queryTailOf
  split
  · next hshort =>
    simp only [hlen, queryRspBytes] at hshort
    simp only [encodeQueryTail, QueryTail.wellFormed, aoeHeaderBytes, drop_encodeHeader, decide_eq_true_eq, true_and]
    omega
  · next hfull =>
    simp only [hlen, queryRspBytes] at hfull
    refine ⟨?_, rfl⟩
    rw [encodeQueryTail, queryRspBytes, ← exists_querySub (by omega), drop_encodeHeader]

theorem encodeIssueTail_issueTailOf (f : Bool) (c : Byte) (h : Header) (t : List Byte) :
    encodeIssueTail (issueTailOf (encodeHeader f c h ++ t)) = t ∧
      (issueTailOf (encodeHeader f c h ++ t)).wellFormed = true := by
  have hlen : (encodeHeader f c h ++ t).length = 24 + t.length := by simp
  unfold issueTailOf
  split
  · next hshort =>
    simp only [hlen, issueHdrBytes] at hshort
    simp only [encodeIssueTail, IssueTail.wellFormed, aoeHeaderBytes, drop_encodeHeader, decide_eq_true_eq, true_and]
    omega
  · next hfull =>
    simp only [hlen, issueHdrBytes] at hfull
    refine ⟨?_, rfl⟩
    rw [encodeIssueTail, issueHdrBytes, ← exists_issueSub (by omega), drop_encodeHeader]

/-- At least 12 bytes after an Issue request's header are its whole sub-header and the data. -/
theorem exists_issueData {t : List Byte} (ht : 12 ≤ t.length) (h : Header) :
    ∃ ata sub data, t = encodeIssueSub ata sub ++ data := by
  have hs := exists_issueSub (rx := encodeHeader false aoeCmdIssue h ++ t) (by simp; omega)
  rw [drop_encodeHeader] at hs
  exact ⟨_, _, _, hs⟩

/-- The form of an Issue request is well-formed and encodes to the request. -/
theorem encode_decodeIssue (h : Header) (ata : Byte) (sub : IssueSub) (data : List Byte) :
    let rx := encodeHeader false aoeCmdIssue h ++ (encodeIssueSub ata sub ++ data)
    encode (decodeIssue rx) = rx ∧ (decodeIssue rx).wellFormed = true := by
  simp only [decodeIssue_encode]
  split_ifs with hi hr hw
  · subst hi; exact ⟨rfl, rfl⟩
  · subst hr; exact ⟨rfl, rfl⟩
  · subst hw; exact ⟨rfl, rfl⟩
  · exact ⟨rfl, by simp [Instr.wellFormed, unsupportedAta, hi, hr, hw]⟩

/-! ### The opcode table over the bytes of the key -/

theorem flagResponse_mask (b : Byte) :
    (b &&& 0x08#8 == 0x00#8) = !flagResponseOf b ∧ (b &&& 0x08#8 == 0x08#8) = flagResponseOf b := by
  revert b; decide

/-- A masked key of three bytes equals a table word exactly if every byte does. -/
theorem key_matches (b14 b19 b27 : Byte) (mask word : BitVec 24) :
    (le24 b27 b19 b14 &&& mask == word) =
      ((b14 &&& byteOf mask 2 == byteOf word 2) && (b19 &&& byteOf mask 1 == byteOf word 1)
        && (b27 &&& byteOf mask 0 == byteOf word 0)) := by
  have hand (k : Nat) : byteOf (le24 b27 b19 b14 &&& mask) k = byteOf (le24 b27 b19 b14) k &&& byteOf mask k :=
    BitVec.extractLsb'_and
  obtain ⟨h27, h19, h14⟩ := byteOf_le24 b27 b19 b14
  rw [Bool.eq_iff_iff]
  simp only [Bool.and_eq_true, beq_iff_eq]
  constructor
  · intro hword
    simp only [← hword, hand, h27, h19, h14, and_self]
  · rintro ⟨⟨e14, e19⟩, e27⟩
    rw [← le24_byteOf (le24 b27 b19 b14 &&& mask), ← le24_byteOf word, hand, hand, hand, h27, h19, h14, e14, e19, e27]

/-- The first row that a key matches, by the R flag, the AoE command and the ATA command (R61). -/
theorem selectRow_key (b14 b19 b27 : Byte) :
    selectRow (le24 b27 b19 b14) =
      if flagResponseOf b14 then
        if b19 == aoeCmdQuery then some "QUERY_RESPONSE" else if b19 == aoeCmdIssue then some "ATA_RESPONSE" else none
      else if b19 == aoeCmdQuery then some "QUERY_CONFIG"
      else if b19 == aoeCmdIssue then
        if b27 == ataCmdIdentify then some "ATA_IDENTIFY"
        else if b27 == ataCmdRead then some "ATA_READ_RETRY"
        else if b27 == ataCmdWrite then some "ATA_WRITE_RETRY"
        else some "ATA_UNSUPPORTED"
      else some "AOE_UNSUPPORTED" := by
  have hones (b : Byte) : b &&& 0xFF#8 = b := BitVec.and_allOnes
  obtain ⟨hzero, hone⟩ := flagResponse_mask b14
  simp only [selectRow, opcodeRows, List.find?, key_matches, byteOf, BitVec.reduceExtractLsb', Nat.reduceMul, hones, hzero,
    hone, BitVec.and_zero, beq_self_eq_true, Bool.and_true, aoeCmdQuery, aoeCmdIssue, ataCmdIdentify, ataCmdRead,
    ataCmdWrite]
  cases flagResponseOf b14 with
  | true =>
    cases b19 == 0x01#8 with
    | true => rfl
    | false => cases b19 == 0x00#8 <;> rfl
  | false =>
    cases b19 == 0x01#8 with
    | true => rfl
    | false =>
      cases b19 == 0x00#8 with
      | false => rfl
      | true =>
        cases b27 == 0xEC#8 with
        | true => rfl
        | false =>
          cases b27 == 0x20#8 with
          | true => rfl
          | false => cases b27 == 0x30#8 <;> rfl

/-- The row that the key of a frame selects, by the fields that the decoder tests (R61). -/
theorem selectRow_dispatchKey (rx : List Byte) :
    selectRow (dispatchKey rx) =
      if aoeFlagResponseOf (readerOf rx) then
        if aoeCommandOf (readerOf rx) = aoeCmdQuery then some "QUERY_RESPONSE"
        else if aoeCommandOf (readerOf rx) = aoeCmdIssue then some "ATA_RESPONSE"
        else none
      else if aoeCommandOf (readerOf rx) = aoeCmdQuery then some "QUERY_CONFIG"
      else if aoeCommandOf (readerOf rx) = aoeCmdIssue then some (decodeIssue rx).mnemonic
      else some "AOE_UNSUPPORTED" := by
  have hkey : dispatchKey rx = le24 (readerOf rx 27) (readerOf rx 19) (readerOf rx 14) := rfl
  have hissue : some (decodeIssue rx).mnemonic =
      if iCmdStatusOf (readerOf rx) = ataCmdIdentify then some "ATA_IDENTIFY"
      else if iCmdStatusOf (readerOf rx) = ataCmdRead then some "ATA_READ_RETRY"
      else if iCmdStatusOf (readerOf rx) = ataCmdWrite then some "ATA_WRITE_RETRY"
      else some "ATA_UNSUPPORTED" := by
    simp only [decodeIssue]
    split_ifs <;> rfl
  rw [hissue, hkey, selectRow_key]
  simp only [beq_iff_eq]
  rfl

/-! ### The statements -/

/-- Settles O1, form by form: the header, then the tail or the sub-header and the data, read back what was encoded. -/
theorem decodeUndoesEncode : Obligations.DecodeUndoesEncode := by
  intro i hi
  cases i with
  | queryConfig h q =>
    simp only [encode, decode_encodeHeader, queryTailOf_encode _ _ _ hi, Bool.false_eq_true, if_false, if_true]
  | ataIdentify h sub data => rw [encode, decode_encodeIssue, decodeIssue_encode, if_pos rfl]
  | ataReadRetry h sub data =>
    rw [encode, decode_encodeIssue, decodeIssue_encode, if_neg (by decide), if_pos rfl]
  | ataWriteRetry h sub data =>
    rw [encode, decode_encodeIssue, decodeIssue_encode, if_neg (by decide), if_neg (by decide), if_pos rfl]
  | ataUnsupported h ata sub data =>
    obtain ⟨⟨hid, hread⟩, hwrite⟩ : (ata ≠ ataCmdIdentify ∧ ata ≠ ataCmdRead) ∧ ata ≠ ataCmdWrite := by
      simpa [Instr.wellFormed, unsupportedAta] using hi
    rw [encode, decode_encodeIssue, decodeIssue_encode, if_neg hid, if_neg hread, if_neg hwrite]
  | aoeUnsupported h c payload =>
    obtain ⟨hquery, hissue⟩ : c ≠ aoeCmdQuery ∧ c ≠ aoeCmdIssue := by
      simpa [Instr.wellFormed, unsupportedAoe] using hi
    rw [encode, decode_encodeHeader, if_neg (by decide), if_neg hquery, if_neg hissue]
  | queryResponse h q =>
    simp only [encode, decode_encodeHeader, queryTailOf_encode _ _ _ hi, if_true]
  | ataResponse h r =>
    rw [encode, decode_encodeHeader, if_pos rfl, if_neg (by decide), if_pos rfl, issueTailOf_encode _ _ _ hi]

/-- A frame that has a form holds the whole AoE header (R98). -/
theorem length_of_decode {rx : List Byte} {i : Instr} (h : decode rx = .ok i) : 24 ≤ rx.length := by
  by_contra hlen
  have hshort : rx.length < aoeHeaderBytes := by simp only [aoeHeaderBytes]; omega
  simp only [decode, if_pos hshort] at h
  cases h

/-- Settles O2: a frame that decodes is its header and a tail, and each branch of the decoder keeps both. -/
theorem encodeUndoesDecode : Obligations.EncodeUndoesDecode := by
  intro rx i hdec
  obtain ⟨f, c, h, t, rfl⟩ : ∃ f c h t, rx = encodeHeader f c h ++ t :=
    ⟨_, _, _, _, exists_header (length_of_decode hdec)⟩
  rw [decode_encodeHeader] at hdec
  split_ifs at hdec with hf hq hi hq hi ht <;> cases hdec
  · subst hf hq
    obtain ⟨ht, hwf⟩ := encodeQueryTail_queryTailOf true aoeCmdQuery h t
    exact ⟨by rw [encode, ht], hwf⟩
  · subst hf hi
    obtain ⟨ht, hwf⟩ := encodeIssueTail_issueTailOf true aoeCmdIssue h t
    exact ⟨by rw [encode, ht], hwf⟩
  · obtain rfl : f = false := by simpa using hf
    subst hq
    obtain ⟨ht, hwf⟩ := encodeQueryTail_queryTailOf false aoeCmdQuery h t
    exact ⟨by rw [encode, ht], hwf⟩
  · obtain rfl : f = false := by simpa using hf
    subst hi
    obtain ⟨ata, sub, data, rfl⟩ := exists_issueData (Nat.le_of_not_lt ht) h
    exact encode_decodeIssue h ata sub data
  · obtain rfl : f = false := by simpa using hf
    exact ⟨rfl, by simp [Instr.wellFormed, unsupportedAoe, hq, hi]⟩

/-- Settles O3: the decoder and the table test the same three fields in the same order. -/
theorem decodeSelectsTheFirstMatchingRow : Obligations.DecodeSelectsTheFirstMatchingRow := by
  intro rx
  rw [selectRow_dispatchKey]
  refine ⟨fun i hdec => ?_, fun h c hdec => ?_⟩
  · simp only [decode] at hdec
    split_ifs at hdec ⊢ <;> cases hdec <;> rfl
  · simp only [decode] at hdec
    split_ifs at hdec ⊢ <;> cases hdec
    rfl

/-- Settles O4 by running the decoder on the two frames. -/
theorem writtenOutFramesDecode : Obligations.WrittenOutFramesDecode := ⟨rfl, rfl⟩

end Sys2Proof

/-! ## The responder's requests and whole transactions

A request that a ready responder accepts runs its form's own rule on `State.accepted`, whatever the form. A Read or Write
of n sectors then takes one answer a step: `readNext_run` and `writeNext_run` are the inductions over the sectors to come,
and `Replied` is what both loops end in. -/

namespace Sys2Proof.Machine

open Sys2Proof

/-! ### The seeded reply -/

/-- The buffer after the seed of a clear one (R100). Irreducible: comparing two states must not run the seed's writes. -/
@[irreducible] def replyTx (major : BitVec 16) (minor : Byte) (h : Header) (cmd : Byte) : Memory :=
  seededTx Memory.empty major minor h cmd

theorem replyTx_eq (major : BitVec 16) (minor : Byte) (h : Header) (cmd : Byte) :
    replyTx major minor h cmd = seededTx Memory.empty major minor h cmd := by
  unfold replyTx
  rfl

/-- Above the headers the seeded buffer is clear. -/
theorem replyTx_clear {major : BitVec 16} {minor : Byte} {h : Header} {cmd : Byte} {a : Nat} (ha : 24 ≤ a) :
    (replyTx major minor h cmd).read a = 0x00#8 := by
  rw [replyTx_eq, seededTx_above ha]
  rfl

/-- A buffer that keeps the seeded header holds the reply's header (R64). -/
theorem readRange_replyHeader {m : Memory} {major : BitVec 16} {minor : Byte} {h : Header} {cmd : Byte}
    (hm : ∀ a, a < 24 → m.read a = (replyTx major minor h cmd).read a) :
    m.readRange 0 24 = replyHeader major minor h cmd :=
  readRange_header fun a ha => by rw [hm a ha, replyTx_eq]

/-! ### The accepting step -/

/-- The state on which the form of an accepted request runs: latched and seeded (R98, R100). -/
def State.accepted (s : State) (rx : List Byte) (cmd : Byte) (h : Header) : State :=
  { s.inTransaction rx cmd 0x00#8 0#24 0x00#8 with tx := replyTx s.idMajor s.idMinor h cmd }

/-- A valid request in a ready responder runs its form on the accepted state. -/
theorem offer_accepted {s : State} {rx : List Byte} {cmd : Byte} {h : Header} {form g : State → Except Fault State}
    (hs : s.Ready) (hk : s.RequestOk h) (hf : s.Fits rx) :
    s.offer rx (State.accept false cmd h rx form) g = toOutcome (form (s.accepted rx cmd h)) := by
  obtain ⟨-, hrole, hidle, htx⟩ := hs
  rw [State.offer_responder hrole hidle hf, State.accept_ok (State.validate_ok hk), htx, ← replyTx_eq]
  rfl

/-- The step that takes a well-formed frame from the head of a ready responder's ports runs it. -/
theorem step_frame_ready {s : State} {i : Instr} {rest : List Input} (hs : s.Ready) (hf : s.Fits (encode i))
    (hw : i.wellFormed = true) (hin : s.inputs = .frame (encode i) :: rest) :
    step s = exec i { s with inputs := rest } := by
  obtain ⟨-, hrole, hidle, -⟩ := hs
  have ha : s.accepts (.frame (encode i)) = true := (State.accepts_frame_responder hrole _).mpr ⟨hf, hidle⟩
  exact stepRunsTheDecodedFrame s [] rest _ i hin (by simp) ha (decodeUndoesEncode i hw)

/-- A valid Issue request in a ready responder runs its form on the accepted state with `T_ATA` latched (R103). -/
theorem offerIssue_accepted {s : State} {rx : List Byte} {h : Header} {ata : Byte} {form : State → Except Fault State}
    (hs : s.Ready) (hk : s.RequestOk h) (hf : s.Fits rx) :
    s.offerIssue h rx (State.issue ata form) = toOutcome (form { s.accepted rx aoeCmdIssue h with tAta := ata }) :=
  offer_accepted hs hk hf

/-! ### The reply in the buffer -/

/-- A reply whose sub-header holds DRDY alone (R64). -/
theorem readRange_drdy {m : Memory} (hz : ∀ a, 24 ≤ a → a < 36 → m.read a = 0x00#8) :
    (drdyTx m).readRange 24 12 = replyStatus 0x40#8 := by
  refine readRange_status ?_ fun a hlo hhi hne => ?_
  · rw [drdyTx_status, hz 27 (by omega) (by omega)]
    rfl
  · rw [drdyTx_outside hne, hz a hlo hhi]

/-- The first 36 bytes of a successful Issue reply: the seeded header, then DRDY (R64). -/
theorem readRange_reply {m : Memory} {major : BitVec 16} {minor : Byte} {h : Header} {cmd : Byte}
    (hm : ∀ a, a < 36 → m.read a = (replyTx major minor h cmd).read a) :
    (drdyTx m).readRange 0 36 = replyHeader major minor h cmd ++ replyStatus 0x40#8 := by
  refine Memory.readRange_append (n := 24) (k := 12) (readRange_replyHeader fun a ha => ?_)
    (readRange_drdy fun a hlo hhi => ?_)
  · rw [drdyTx_outside (by omega), hm a (by omega)]
  · rw [hm a hhi, replyTx_clear hlo]

/-- The Query reply (R64). -/
theorem readRange_queryReply (major : BitVec 16) (minor : Byte) (h : Header) (cmd : Byte) (c : Config) :
    (queryTx (replyTx major minor h cmd) c).readRange 0 32 =
      replyHeader major minor h cmd ++ replyQuery c :=
  Memory.readRange_append (n := 24) (k := 8) (readRange_replyHeader fun _ ha => queryTx_outside (.inl ha))
    (queryTx_sub (replyTx_clear (by decide)))

/-- The buffer after `identify()` over a seeded one (R106). -/
def identifyTx (major : BitVec 16) (minor : Byte) (h : Header) (cmd : Byte) (sectors : BitVec 64) : Memory :=
  drdyTx ((replyTx major minor h cmd).write 236 (le64Bytes sectors))

theorem identifyTx_clear {major : BitVec 16} {minor : Byte} {h : Header} {cmd : Byte} {sectors : BitVec 64} {a : Nat}
    (hlo : 36 ≤ a) (ha : a < 236 ∨ 244 ≤ a) : (identifyTx major minor h cmd sectors).read a = 0x00#8 := by
  rw [identifyTx, drdyTx_outside (by omega), Memory.read_write_outside ha, replyTx_clear (by omega)]

/-- The Identify reply (R64): the header and DRDY, then the capacity in the identify block. -/
theorem readRange_identifyReply (major : BitVec 16) (minor : Byte) (h : Header) (cmd : Byte) (sectors : BitVec 64) :
    (identifyTx major minor h cmd sectors).readRange 0 548 =
      replyHeader major minor h cmd ++ replyStatus 0x40#8 ++ List.replicate 200 0x00#8 ++ le64Bytes sectors
        ++ List.replicate 304 0x00#8 := by
  have hhead : (identifyTx major minor h cmd sectors).readRange 0 36 = replyHeader major minor h cmd ++ replyStatus 0x40#8 :=
    readRange_reply fun a ha => Memory.read_write_outside (.inl (by omega))
  have hlow : (identifyTx major minor h cmd sectors).readRange 36 200 = List.replicate 200 0x00#8 :=
    Memory.readRange_zero fun k hk => identifyTx_clear (by omega) (.inl (by omega))
  have hcap : (identifyTx major minor h cmd sectors).readRange 236 8 = le64Bytes sectors :=
    (Memory.readRange_congr fun k _ => drdyTx_outside (by omega)).trans (Memory.readRange_write rfl)
  have hhigh : (identifyTx major minor h cmd sectors).readRange 244 304 = List.replicate 304 0x00#8 :=
    Memory.readRange_zero fun k hk => identifyTx_clear (by omega) (.inr (by omega))
  have h236 := Memory.readRange_append hhead hlow
  have h244 := Memory.readRange_append h236 hcap
  exact (Memory.readRange_append h244 hhigh :)

/-! ### QUERY_CONFIG and ATA_IDENTIFY -/

/-- Settles O25: the seed and the Query sub-header fill the 32 bytes. -/
theorem queryConfigSendsTheQueryResponse : Obligations.QueryConfigSendsTheQueryResponse := by
  intro s h q hs hk hf
  refine ⟨queryTx (replyTx s.idMajor s.idMinor h 0x01#8) s.cfg, ?_, readRange_queryReply .., fun a ha => ?_⟩
  · have hexec : exec (.queryConfig h q) s = toOutcome (State.queryConfig (s.accepted _ _ h)) := offer_accepted hs hk hf
    rw [hexec, State.queryConfig_eq, State.respond_eq (by decide)]
    simp only [State.accepted, State.inTransaction, toOutcome_ok]
  · rw [queryTx_outside (.inr ha), replyTx_clear (by omega)]

/-- Settles O26: the seed, the capacity and DRDY are all that is written. -/
theorem identifySendsTheIdentifyBlock : Obligations.IdentifySendsTheIdentifyBlock := by
  intro s h sub data hs hk hf
  refine ⟨identifyTx s.idMajor s.idMinor h 0x00#8 s.idSectors, ?_, readRange_identifyReply ..,
    fun a ha => identifyTx_clear (by omega) (.inr (by omega))⟩
  have hexec : exec (.ataIdentify h sub data) s =
      toOutcome (State.identify { s.accepted _ aoeCmdIssue h with tAta := ataCmdIdentify }) :=
    offerIssue_accepted hs hk hf
  obtain ⟨⟨hmax, -⟩, -⟩ := hs
  rw [hexec, State.identify_eq (by exact hmax), State.respond_eq (by decide)]
  simp only [State.accepted, State.inTransaction, toOutcome_ok, identifyTx]

/-! ### Reads and Writes in a ready responder -/

/-- The state in which the transfer of an accepted Read or Write starts (R107, R110). -/
def State.transferring (s : State) (rx : List Byte) (h : Header) (ata : Byte) (sub : IssueSub) : State :=
  { s.inTransaction rx 0x00#8 ata sub.lba sub.sectorCount with tx := replyTx s.idMajor s.idMinor h 0x00#8 }

section
variable (s : State) (rx : List Byte) (h : Header) (ata : Byte) (sub : IssueSub)

@[simp] theorem State.transferring_cfg : (s.transferring rx h ata sub).cfg = s.cfg := rfl
@[simp] theorem State.transferring_tx :
    (s.transferring rx h ata sub).tx = replyTx s.idMajor s.idMinor h 0x00#8 := rfl
@[simp] theorem State.transferring_tLba : (s.transferring rx h ata sub).tLba = sub.lba := rfl
@[simp] theorem State.transferring_tCount : (s.transferring rx h ata sub).tCount = sub.sectorCount := rfl
@[simp] theorem State.transferring_tIdx : (s.transferring rx h ata sub).tIdx.toNat = 0 := rfl
@[simp] theorem State.transferring_rx : (s.transferring rx h ata sub).rx = rx := rfl
@[simp] theorem State.transferring_inputs : (s.transferring rx h ata sub).inputs = s.inputs := rfl
@[simp] theorem State.transferring_reqNo : (s.transferring rx h ata sub).reqNo = s.reqNo := rfl
@[simp] theorem State.transferring_outputs : (s.transferring rx h ata sub).outputs = s.outputs := rfl

end

theorem State.readStart_within {s : State} {sub : IssueSub} (hc : sub.sectorCount.toNat ≤ s.cfg.maxSectors) :
    State.readStart sub s = State.readNext { s with tCount := sub.sectorCount, tLba := sub.lba, tIdx := 0#9 } := by
  simp only [State.readStart, if_neg (Nat.not_lt.mpr hc)]

theorem State.writeStart_within {s : State} {sub : IssueSub} (hc : sub.sectorCount.toNat ≤ s.cfg.maxSectors)
    (hl : 36 + 512 * sub.sectorCount.toNat ≤ s.rx.length) :
    State.writeStart sub s = State.writeNext { s with tCount := sub.sectorCount, tLba := sub.lba, tIdx := 0#9 } := by
  simp only [State.writeStart, if_neg (Nat.not_lt.mpr hc), if_neg (Nat.not_lt.mpr hl)]

/-- A valid Read within the limit starts the read loop (R107, R113). -/
theorem exec_ataReadRetry {s : State} {h : Header} {sub : IssueSub} {data : List Byte} (hs : s.Ready)
    (hk : s.RequestOk h) (hf : s.Fits (encode (.ataReadRetry h sub data))) (hc : sub.sectorCount.toNat ≤ s.cfg.maxSectors) :
    exec (.ataReadRetry h sub data) s =
      toOutcome (s.transferring (encode (.ataReadRetry h sub data)) h 0x20#8 sub).readNext := by
  have hexec : exec (.ataReadRetry h sub data) s =
      toOutcome (State.readStart sub { s.accepted _ aoeCmdIssue h with tAta := ataCmdRead }) :=
    offerIssue_accepted hs hk hf
  rw [hexec, State.readStart_within (by exact hc)]
  simp only [State.accepted, State.transferring, State.inTransaction]

/-- A valid Write within the limit that holds its data windows starts the write loop (R110, R113). -/
theorem exec_ataWriteRetry {s : State} {h : Header} {sub : IssueSub} {data : List Byte} (hs : s.Ready)
    (hk : s.RequestOk h) (hf : s.Fits (encode (.ataWriteRetry h sub data))) (hc : sub.sectorCount.toNat ≤ s.cfg.maxSectors)
    (hd : 512 * sub.sectorCount.toNat ≤ data.length) :
    exec (.ataWriteRetry h sub data) s =
      toOutcome (s.transferring (encode (.ataWriteRetry h sub data)) h 0x30#8 sub).writeNext := by
  have hexec : exec (.ataWriteRetry h sub data) s =
      toOutcome (State.writeStart sub { s.accepted _ aoeCmdIssue h with tAta := ataCmdWrite }) :=
    offerIssue_accepted hs hk hf
  have hlong : 36 + 512 * sub.sectorCount.toNat ≤ (encode (.ataWriteRetry h sub data)).length := by
    rw [encode, length_encodeIssue]; omega
  rw [hexec, State.writeStart_within (by exact hc) (by exact hlong)]
  simp only [State.accepted, State.transferring, State.inTransaction]

/-- The 36-byte reply of a transfer of no sector (R113, R118). -/
theorem respond_transferring {s : State} {rx : List Byte} {h : Header} {ata : Byte} {sub : IssueSub}
    (hc : sub.sectorCount = 0x00#8) :
    ∃ tx', toOutcome (.ok ({ s.transferring rx h ata sub with tx := drdyTx (s.transferring rx h ata sub).tx }.respond 36)) =
      .next { s.inTransaction rx 0x00#8 ata sub.lba 0x00#8 with
        tx := tx', rspValid := true, rspLen := 36#18, rstate := .txWait, reqNo := s.reqNo + 1
        outputs := s.outputs ++ [.txReq (tx'.readRange 0 36) 36 s.cfg.txTimeout] } ∧
      tx'.readRange 0 36 = replyHeader s.idMajor s.idMinor h 0x00#8 ++ replyStatus 0x40#8 ∧
      ∀ a, 36 ≤ a → tx'.read a = 0x00#8 := by
  refine ⟨drdyTx (replyTx s.idMajor s.idMinor h 0x00#8), ?_, readRange_reply fun _ _ => rfl, fun a ha => ?_⟩
  · rw [State.respond_eq (by decide)]
    simp only [State.transferring, State.inTransaction, toOutcome_ok, hc]
  · rw [drdyTx_outside (by omega), replyTx_clear (by omega)]

/-- Settles O29: both loops find every sector done before their first request. -/
theorem transferOfNoSectorSucceedsAtOnce : Obligations.TransferOfNoSectorSucceedsAtOnce := by
  intro s h sub data hs hk hfr hfw hc
  have hzero : sub.sectorCount.toNat = 0 := by rw [hc]; rfl
  refine ⟨?_, ?_⟩
  · rw [exec_ataReadRetry hs hk hfr (by omega), State.readNext_done (by simp [hzero]), State.transferring_tCount, hzero]
    exact respond_transferring hc
  · rw [exec_ataWriteRetry hs hk hfw (by omega) (by omega), State.writeNext_done (by simp [hzero])]
    exact respond_transferring hc

/-! ### Whole transactions -/

/-- After the requests `reqs` and their answers the reply of `len` bytes in `m` is on its way, and `rest` still stands at
the ports (R108, R111, R118). -/
structure Replied (s t : State) (reqs : List Output) (m : Memory) (len : Nat) (rest : List Input) : Prop where
  rstate : t.rstate = .txWait
  inputs : t.inputs = rest
  rspValid : t.rspValid = true
  rspLen : t.rspLen.toNat = len
  reqNo : t.reqNo = s.reqNo + reqs.length + 1
  outputs : t.outputs = s.outputs ++ reqs ++ [.txReq (m.readRange 0 len) len s.cfg.txTimeout]

theorem Replied.of_respond {s : State} {m : Memory} {len : Nat} (hl : len < 2 ^ 18) :
    Replied s ({ s with tx := m }.respond len) [] m len s.inputs := by
  rw [State.respond_eq hl]
  exact ⟨rfl, rfl, rfl, by simp only [BitVec.toNat_ofNat]; exact Nat.mod_eq_of_lt hl, rfl, by simp⟩

/-- One request more, before the others. -/
theorem Replied.cons {s u t : State} {r : Output} {reqs : List Output} {m : Memory} {len : Nat} {rest : List Input}
    (h : Replied u t reqs m len rest) (hcfg : u.cfg = s.cfg) (hreq : u.reqNo = s.reqNo + 1)
    (hout : u.outputs = s.outputs ++ [r]) : Replied s t (r :: reqs) m len rest where
  rstate := h.rstate
  inputs := h.inputs
  rspValid := h.rspValid
  rspLen := h.rspLen
  reqNo := by rw [h.reqNo, hreq, List.length_cons]; omega
  outputs := by rw [h.outputs, hcfg, hout]; simp

theorem step_readAnswer {s : State} {ok : Bool} {d : Sector} {rest : List Input} (hr : s.cfg.role = .responder)
    (hw : s.rstate = .sreadWait) (hin : s.inputs = .readAnswer s.reqNo ok d :: rest) :
    step s = toOutcome ({ s with inputs := rest }.readAnswered ok d) :=
  step_takes_head (by simp [State.clearDue, hw]) hin ((State.accepts_readAnswer _ _ _).mpr ⟨rfl, hr, hw⟩)

theorem step_writeAnswer {s : State} {ok : Bool} {rest : List Input} (hr : s.cfg.role = .responder)
    (hw : s.rstate = .swriteWait) (hin : s.inputs = .writeAnswer s.reqNo ok :: rest) :
    step s = toOutcome ({ s with inputs := rest }.writeAnswered ok) :=
  step_takes_head (by simp [State.clearDue, hw]) hin ((State.accepts_writeAnswer _ _).mpr ⟨rfl, hr, hw⟩)

/-- Every response of R124 has a length that `RSP_LEN` holds. -/
theorem responseLen_lt (n : BitVec 8) : 36 + 512 * n.toNat < 2 ^ 18 := by
  have := n.isLt
  omega

theorem sectorBytesOf_cons (d : Sector) (ds : List Sector) : sectorBytesOf (d :: ds) = d.toList ++ sectorBytesOf ds := rfl

theorem length_sectorBytesOf (ds : List Sector) : (sectorBytesOf ds).length = 512 * ds.length := by
  induction ds with
  | nil => rfl
  | cons d ds ih =>
    have hd : d.toList.length = 512 := Vector.length_toList
    rw [sectorBytesOf_cons, List.length_append, hd, ih, List.length_cons]
    omega

/-- The buffer after the sectors `ds` landed in their windows, the first in window `k` (R108, R114). -/
def sectorsTx : Memory → Nat → List Sector → Memory
  | m, _, []      => m
  | m, k, d :: ds => sectorsTx (m.write (36 + 512 * k) d.toList) (k + 1) ds

theorem sectorsTx_outside {ds : List Sector} {m : Memory} {k a : Nat}
    (ha : a < 36 + 512 * k ∨ 36 + 512 * (k + ds.length) ≤ a) : (sectorsTx m k ds).read a = m.read a := by
  induction ds generalizing m k with
  | nil => rfl
  | cons d ds ih =>
    rw [List.length_cons, Nat.add_comm ds.length, ← Nat.add_assoc] at ha
    have hd : d.toList.length = 512 := Vector.length_toList
    rw [sectorsTx, ih (by omega), Memory.read_write_outside (by rw [hd]; omega)]

theorem readRange_sectorsTx (ds : List Sector) (m : Memory) (k : Nat) :
    (sectorsTx m k ds).readRange (36 + 512 * k) (512 * ds.length) = sectorBytesOf ds := by
  induction ds generalizing m k with
  | nil => rfl
  | cons d ds ih =>
    have hfirst : (sectorsTx (m.write (36 + 512 * k) d.toList) (k + 1) ds).readRange (36 + 512 * k) 512 = d.toList :=
      (Memory.readRange_congr fun j hj => sectorsTx_outside (.inl (by omega))).trans
        (Memory.readRange_write Vector.length_toList)
    have hlen : 512 * (d :: ds).length = 512 + 512 * ds.length := by rw [List.length_cons]; omega
    have hnext : 36 + 512 * k + 512 = 36 + 512 * (k + 1) := by omega
    rw [sectorsTx, hlen, Memory.readRange_add, hfirst, hnext, ih, sectorBytesOf_cons]

/-- The read loop (R108): from a sector `T_IDX` on, with an answer at the ports for each sector to come. -/
theorem readNext_run {ds : List Sector} {rest : List Input} {s : State} (hr : s.cfg.role = .responder)
    (hn : s.tIdx.toNat + ds.length = s.tCount.toNat) (hc : s.tCount.toNat ≤ s.cfg.maxSectors)
    (hin : s.inputs = readAnswers (s.reqNo + 1) ds ++ rest) :
    ∃ u t, s.readNext = .ok u ∧ Host.Core.run Sys2Proof.core ds.length u = .next t ∧
      Replied s t (readRequests (s.tLba.toNat + s.tIdx.toNat) ds.length) (drdyTx (sectorsTx s.tx s.tIdx.toNat ds))
        (36 + 512 * s.tCount.toNat) rest := by
  induction ds generalizing s with
  | nil =>
    obtain rfl : s.inputs = rest := hin
    exact ⟨_, _, State.readNext_done hn, rfl, .of_respond (responseLen_lt _)⟩
  | cons d ds ih =>
    rw [List.length_cons] at hn
    have hlt : s.tIdx.toNat < s.tCount.toNat := by omega
    have hnext : (s.tIdx + 1#9).toNat = s.tIdx.toNat + 1 := toNat_nextIdx hlt
    obtain ⟨u, t, hu, hrun, hrep⟩ := ih (s := { s with
      rstate := .sreadWait, reqNo := s.reqNo + 1, outputs := s.outputs ++ [.sread (s.tLba.toNat + s.tIdx.toNat)]
      inputs := readAnswers (s.reqNo + 1 + 1) ds ++ rest
      tx := s.tx.write (36 + 512 * s.tIdx.toNat) d.toList, tIdx := s.tIdx + 1#9 }) hr (by simp only [hnext]; omega) hc rfl
    refine ⟨_, t, State.readNext_more (by omega), ?_, ?_⟩
    · rw [List.length_cons, run_step ?_, hrun]
      rw [step_readAnswer (by exact hr) rfl (by exact hin), State.readAnswered_ok (by exact hlt.trans_le hc)]
      exact congrArg toOutcome hu
    · simp only [hnext] at hrep
      exact hrep.cons rfl rfl rfl

/-- The first window of the sectors still to store, and what follows it (R58, R110). -/
theorem window_cons {rx : List Byte} {k : Nat} {d : Sector} {ds : List Sector} {extra : List Byte}
    (hrx : rx.drop (36 + 512 * k) = sectorBytesOf (d :: ds) ++ extra) :
    36 + 512 * k + 512 ≤ rx.length ∧ windowOf k (readerOf rx) = d ∧
      rx.drop (36 + 512 * (k + 1)) = sectorBytesOf ds ++ extra := by
  have hd : d.toList.length = 512 := Vector.length_toList
  have hsplit : rx.drop (36 + 512 * k) = d.toList ++ (sectorBytesOf ds ++ extra) := by
    rw [hrx, sectorBytesOf_cons, List.append_assoc]
  have hlen : 36 + 512 * k + 512 ≤ rx.length := by
    have := congrArg List.length hsplit
    rw [List.length_drop, List.length_append, hd] at this
    omega
  refine ⟨hlen, Vector.toList_inj.mp ?_, ?_⟩
  · rw [windowOf_toList hlen, hsplit, List.take_left' hd]
  · have hnext : 36 + 512 * (k + 1) = 36 + 512 * k + 512 := by omega
    rw [hnext, ← List.drop_drop, hsplit, List.drop_left' hd]

/-- The write loop (R111): from a sector `T_IDX` on, whose window and those after it hold the sectors `ds`, with an answer
at the ports for each. -/
theorem writeNext_run {ds : List Sector} {extra : List Byte} {rest : List Input} {s : State} (hr : s.cfg.role = .responder)
    (hn : s.tIdx.toNat + ds.length = s.tCount.toNat)
    (hrx : s.rx.drop (36 + 512 * s.tIdx.toNat) = sectorBytesOf ds ++ extra)
    (hin : s.inputs = writeAnswers (s.reqNo + 1) ds.length ++ rest) :
    ∃ u t, s.writeNext = .ok u ∧ Host.Core.run Sys2Proof.core ds.length u = .next t ∧
      Replied s t (writeRequests (s.tLba.toNat + s.tIdx.toNat) ds) (drdyTx s.tx) 36 rest := by
  induction ds generalizing s with
  | nil =>
    obtain rfl : s.inputs = rest := hin
    exact ⟨_, _, State.writeNext_done hn, rfl, .of_respond (by decide)⟩
  | cons d ds ih =>
    rw [List.length_cons] at hn
    have hlt : s.tIdx.toNat < s.tCount.toNat := by omega
    have hnext : (s.tIdx + 1#9).toNat = s.tIdx.toNat + 1 := toNat_nextIdx hlt
    obtain ⟨hlen, hwindow, hdrop⟩ := window_cons hrx
    obtain ⟨u, t, hu, hrun, hrep⟩ := ih (s := { s with
      rstate := .swriteWait, reqNo := s.reqNo + 1, outputs := s.outputs ++ [.swrite (s.tLba.toNat + s.tIdx.toNat) d]
      inputs := writeAnswers (s.reqNo + 1 + 1) ds.length ++ rest, tIdx := s.tIdx + 1#9 }) hr
      (by simp only [hnext]; omega) (by simp only [hnext]; exact hdrop) rfl
    refine ⟨_, t, State.writeNext_more (by omega) hlen, ?_, ?_⟩
    · rw [List.length_cons, run_step ?_, hrun]
      rw [step_writeAnswer (by exact hr) rfl (by exact hin), State.writeAnswered_ok, hwindow]
      exact congrArg toOutcome hu
    · simp only [hnext] at hrep
      exact hrep.cons rfl rfl rfl

theorem length_readRequests (lba n : Nat) : (readRequests lba n).length = n := by
  induction n generalizing lba with
  | zero => rfl
  | succ n ih => rw [readRequests, List.length_cons, ih]

theorem length_writeRequests (lba : Nat) (ds : List Sector) : (writeRequests lba ds).length = ds.length := by
  induction ds generalizing lba with
  | nil => rfl
  | cons d ds ih => rw [writeRequests, List.length_cons, List.length_cons, ih]

/-- The reply of a Read holds the header, DRDY and the sectors in order (R64, R108). -/
theorem readRange_readReply (major : BitVec 16) (minor : Byte) (h : Header) (cmd : Byte) (ds : List Sector) :
    (drdyTx (sectorsTx (replyTx major minor h cmd) 0 ds)).readRange 0 (36 + 512 * ds.length) =
      replyHeader major minor h cmd ++ replyStatus 0x40#8 ++ sectorBytesOf ds := by
  refine Memory.readRange_append (readRange_reply fun a ha => sectorsTx_outside (.inl (by omega))) ?_
  rw [Memory.readRange_congr fun k _ => drdyTx_outside (by omega)]
  exact readRange_sectorsTx ds _ 0

/-- Settles O39: the step that takes the request enters the read loop, which takes one answer a step. -/
theorem readSendsEverySectorInOrder : Obligations.ReadSendsEverySectorInOrder := by
  intro s h sub data ds rest hs hk hf hn hmax hin
  have hrole : s.cfg.role = .responder := by obtain ⟨-, hrole, -⟩ := hs; exact hrole
  obtain ⟨u, t, hu, hrun, hrep⟩ := readNext_run (ds := ds) (rest := rest)
    (s := { s with inputs := readAnswers (s.reqNo + 1) ds ++ rest }.transferring
      (encode (.ataReadRetry h sub data)) h 0x20#8 sub)
    hrole (by simp [hn]) (by simpa [hn] using hmax) rfl
  have hstep : step s = .next u := by
    rw [step_frame_ready hs hf rfl hin, exec_ataReadRetry (by exact hs) (by exact hk) (by exact hf) (by simpa [hn] using hmax),
      hu, toOutcome_ok]
  have hlen := hrep.rspLen
  have hreq := hrep.reqNo
  have hout := hrep.outputs
  simp only [State.transferring_cfg, State.transferring_tx, State.transferring_tLba, State.transferring_tCount,
    State.transferring_tIdx, State.transferring_reqNo, State.transferring_outputs, Nat.add_zero, hn, length_readRequests,
    readRange_readReply] at hlen hreq hout
  exact ⟨t, (run_step hstep).trans hrun, hrep.rstate, hrep.inputs, hrep.rspValid, hlen, hreq, hout⟩

/-- Settles O40: the step that takes the request enters the write loop, which takes one answer a step. -/
theorem writeStoresEverySectorInOrder : Obligations.WriteStoresEverySectorInOrder := by
  intro s h sub ds extra rest hs hk hf hn hmax hin
  have hrole : s.cfg.role = .responder := by obtain ⟨-, hrole, -⟩ := hs; exact hrole
  obtain ⟨u, t, hu, hrun, hrep⟩ := writeNext_run (ds := ds) (extra := extra) (rest := rest)
    (s := { s with inputs := writeAnswers (s.reqNo + 1) ds.length ++ rest }.transferring
      (encode (.ataWriteRetry h sub (sectorBytesOf ds ++ extra))) h 0x30#8 sub)
    hrole (by simp [hn]) (by simp [encode]) rfl
  have hstep : step s = .next u := by
    rw [step_frame_ready hs hf rfl hin, exec_ataWriteRetry (by exact hs) (by exact hk) (by exact hf)
      (by simpa [hn] using hmax) (by rw [hn, List.length_append, length_sectorBytesOf]; omega), hu, toOutcome_ok]
  have hreq := hrep.reqNo
  have hout := hrep.outputs
  simp only [State.transferring_cfg, State.transferring_tx, State.transferring_tLba, State.transferring_tIdx,
    State.transferring_reqNo, State.transferring_outputs, Nat.add_zero, length_writeRequests,
    readRange_reply (fun _ _ => rfl)] at hreq hout
  exact ⟨t, (run_step hstep).trans hrun, hrep.rstate, hrep.inputs, hrep.rspValid, hrep.rspLen, hreq, hout⟩

end Sys2Proof.Machine

/-! ## The initiator's requests

Each host command composes a header with a fresh tag, its own sub-header and, for a Write, the data windows, and sends
what it composed (R129 to R135). -/

namespace Sys2Proof.Machine

open Sys2Proof

/-! ### The composed request -/

/-- The buffer after a request's header is composed in a clear one (R130). Irreducible: comparing two states must not run
the writes. -/
@[irreducible] def requestHeaderTx (dst : Mac) (major : BitVec 16) (minor cmd : Byte) (tag : BitVec 32) : Memory :=
  composedTx Memory.empty dst major minor cmd tag

theorem requestHeaderTx_eq (dst : Mac) (major : BitVec 16) (minor cmd : Byte) (tag : BitVec 32) :
    requestHeaderTx dst major minor cmd tag = composedTx Memory.empty dst major minor cmd tag := by
  unfold requestHeaderTx
  rfl

/-- Above the headers the composed buffer is clear. -/
theorem requestHeaderTx_clear {dst : Mac} {major : BitVec 16} {minor cmd : Byte} {tag : BitVec 32} {a : Nat} (ha : 24 ≤ a) :
    (requestHeaderTx dst major minor cmd tag).read a = 0x00#8 := by
  rw [requestHeaderTx_eq, composedTx_above ha]
  rfl

/-- A request: a buffer that keeps the composed header, then the bytes from 24 on (R65). -/
theorem readRange_request {m : Memory} {dst : Mac} {major : BitVec 16} {minor cmd : Byte} {tag : BitVec 32} {n : Nat}
    {l : List Byte} (hm : ∀ a, a < 24 → m.read a = (requestHeaderTx dst major minor cmd tag).read a)
    (hl : m.readRange 24 n = l) : m.readRange 0 (24 + n) = requestHeader dst major minor cmd tag ++ l :=
  Memory.readRange_append (readRange_requestHeader fun a ha => by rw [hm a ha, requestHeaderTx_eq]) hl

theorem composeHeader_clear {s : State} (htx : s.tx = Memory.empty) (dst : Mac) (major : BitVec 16) (minor cmd : Byte) :
    s.composeHeader dst major minor cmd =
      .ok { s with tag := s.tag + 1#32, tx := requestHeaderTx dst major minor cmd (s.tag + 1#32) } := by
  rw [State.composeHeader_eq, htx, requestHeaderTx_eq]

/-- The buffer after the count and the command of an Issue request (R133 to R135). -/
def issueTx (m : Memory) (count cmd : Byte) : Memory := (m.write 26 [count]).write 27 [cmd]

theorem issueTx_outside {m : Memory} {count cmd : Byte} {a : Nat} (ha : a < 26 ∨ 28 ≤ a) :
    (issueTx m count cmd).read a = m.read a := by
  rw [issueTx, Memory.read_write_outside (by simp; omega), Memory.read_write_outside (by simp; omega)]

theorem readRange_issueTx {m : Memory} (count cmd : Byte) (hz : ∀ a, 24 ≤ a → m.read a = 0x00#8) :
    (issueTx m count cmd).readRange 24 12 = requestIssue 0x00#8 count cmd 0#24 := by
  have hlba : le24Bytes 0#24 = [0x00#8, 0x00#8, 0x00#8] := by decide
  simp [issueTx, Memory.readRange, List.range_succ_eq_map, Memory.read_write, requestIssue, hlba, hz]

/-- The buffer after the count, the command and the LBA of an Issue request (R134, R135). -/
def transferTx (m : Memory) (count cmd : Byte) (lba : BitVec 24) : Memory := (issueTx m count cmd).write 28 (le24Bytes lba)

theorem transferTx_outside {m : Memory} {count cmd : Byte} {lba : BitVec 24} {a : Nat} (ha : a < 26 ∨ 31 ≤ a) :
    (transferTx m count cmd lba).read a = m.read a := by
  rw [transferTx, Memory.read_write_outside (by simp; omega), issueTx_outside (by omega)]

theorem readRange_transferTx {m : Memory} {aflags : Byte} (count cmd : Byte) (lba : BitVec 24) (h24 : m.read 24 = aflags)
    (hz : ∀ a, 25 ≤ a → m.read a = 0x00#8) :
    (transferTx m count cmd lba).readRange 24 12 = requestIssue aflags count cmd lba := by
  simp [transferTx, issueTx, Memory.readRange, List.range_succ_eq_map, Memory.read_write, requestIssue, le24Bytes, h24, hz]

/-! ### A host command in a state that accepts it -/

/-- The step that takes a host command from the head of an initiator's ports runs it (R127). -/
theorem step_host {s : State} {c : CState} {cmd : HostCmd} {rest : List Input} (hs : s.InitiatorIn c) (hc : c ≠ .txWait)
    (hc' : c ≠ .awaitOp) (hin : s.inputs = .host cmd :: rest) :
    step s = toOutcome ({ s with inputs := rest }.hostCommand cmd) := by
  obtain ⟨-, hrole, rfl, -⟩ := hs
  exact step_takes_head (by simp [State.clearDue, hrole]) hin ((State.accepts_host_initiator hrole cmd).mpr ⟨hc, hc'⟩)

/-- An operation in `C_CONNECTED` runs its own rule (R128). -/
theorem State.operation_connected {s : State} (hc : s.cstate = .connected) (op : State → Except Fault State) :
    s.operation op = op s := if_pos hc

/-- The state that sends an operation's request: a fresh tag, the kind, the count and the composed buffer (R131). -/
def State.operating (s : State) (kind : OpKind) (count : Byte) (m : Memory) : State :=
  { s with tag := s.tag + 1#32, opKind := kind, opCount := count, tx := m }

/-- The buffer after an Issue request's header is composed (R133 to R135). -/
def State.issueHeaderTx (s : State) : Memory := requestHeaderTx s.dest s.idMajor s.idMinor aoeCmdIssue (s.tag + 1#32)

theorem State.issueHeaderTx_clear {s : State} {a : Nat} (ha : 24 ≤ a) : s.issueHeaderTx.read a = 0x00#8 :=
  requestHeaderTx_clear ha

/-- The request of an operation: a buffer that keeps the composed header, then its sub-header (R65). -/
theorem State.readRange_issueRequest {s : State} {m : Memory} {l : List Byte}
    (hm : ∀ a, a < 24 → m.read a = s.issueHeaderTx.read a) (hl : m.readRange 24 12 = l) :
    m.readRange 0 36 = requestHeader s.dest s.idMajor s.idMinor 0x00#8 (s.tag + 1#32) ++ l :=
  readRange_request (n := 12) hm hl

theorem State.composeIssueHeader_clear {s : State} (htx : s.tx = Memory.empty) :
    s.composeIssueHeader = .ok { s with tag := s.tag + 1#32, tx := s.issueHeaderTx } := composeHeader_clear htx ..

theorem State.connect_eq {s : State} (htx : s.tx = Memory.empty) :
    s.connect = .ok (State.send 32 { s with
      tag := s.tag + 1#32, opKind := .query
      tx := requestHeaderTx Mac.broadcast majorBroadcast minorBroadcast aoeCmdQuery (s.tag + 1#32) }) := by
  rw [State.connect, composeHeader_clear htx]
  rfl

theorem State.hostIdentify_eq {s : State} (htx : s.tx = Memory.empty) :
    s.hostIdentify = .ok (State.send 36 (s.operating .identify 0x00#8 (issueTx s.issueHeaderTx 0x01#8 0xEC#8))) := by
  simp only [State.hostIdentify, State.composeIssueHeader_clear htx, State.setISectorCount_eq, State.setICmdStatus_eq]
  rfl

theorem State.hostRead_eq {s : State} {sector count : Nat} (htx : s.tx = Memory.empty)
    (ha : argsOk s.cfg sector count = true) :
    s.hostRead sector count = .ok (State.send 36 (s.operating .read (BitVec.ofNat 8 count)
      (transferTx s.issueHeaderTx (BitVec.ofNat 8 count) 0x20#8 (BitVec.ofNat 24 sector)))) := by
  simp only [State.hostRead, ha, if_true, State.composeIssueHeader_clear htx, State.setISectorCount_eq,
    State.setICmdStatus_eq, State.setILba_eq]
  rfl

/-- A Write's request: the W bit, the sub-header, then the host's data in its windows (R135). -/
theorem State.hostWrite_eq {s : State} {sector count : Nat} {w : List Byte} (htx : s.tx = Memory.empty)
    (ha : argsOk s.cfg sector count = true) (hw : w.length = 512 * count) :
    ∃ m, s.hostWrite sector count w =
        .ok (State.send (36 + 512 * count) (s.operating .write (BitVec.ofNat 8 count) m)) ∧
      m.readRange 36 (512 * count) = w ∧
      ∀ a, a < 36 ∨ 36 + 512 * count ≤ a → m.read a =
        (transferTx (s.issueHeaderTx.write 24 [0x01#8]) (BitVec.ofNat 8 count) 0x30#8 (BitVec.ofNat 24 sector)).read a := by
  obtain ⟨-, hmax, -⟩ := (argsOk_iff _ _ _).mp ha
  obtain ⟨m, hm, hdata, hkeep⟩ := State.setWindows_eq (k := 0) (n := count) (w := w)
    (s := { s with
      tag := s.tag + 1#32
      tx := transferTx (s.issueHeaderTx.write 24 [0x01#8]) (BitVec.ofNat 8 count) 0x30#8 (BitVec.ofNat 24 sector) })
    (by simpa using hmax) hw
  refine ⟨m, ?_, hdata, fun a h => hkeep a (by omega)⟩
  simp only [State.hostWrite, ha, hw, sectorBytes, and_self, if_true, State.composeIssueHeader_clear htx,
    State.setIAflags_eq, State.setISectorCount_eq, State.setICmdStatus_eq, State.setILba_eq, bind, Except.bind]
  simp only [transferTx, issueTx] at hm
  rw [hm]
  rfl

/-- What sending an operation's request changes (R131). -/
theorem send_operating {s : State} {rest : List Input} (hc : s.cstate = .connected) (kind : OpKind) (count : Byte)
    (m : Memory) (len : Nat) :
    State.send len ({ s with inputs := rest }.operating kind count m) = { s with
      inputs := rest, tx := m, tag := s.tag + 1#32, opKind := kind, opCount := count, cPrev := .connected
      cstate := .txWait, reqNo := s.reqNo + 1
      outputs := s.outputs ++ [.txReq (m.readRange 0 len) len s.cfg.txTimeout] } := by
  simp only [State.send_eq, State.operating, hc]

/-! ### The statements -/

/-- Settles O42: the composed header is the whole request. -/
theorem connectBroadcastsADiscoveryRequest : Obligations.ConnectBroadcastsADiscoveryRequest := by
  intro s c rest hs hc hin
  obtain ⟨htxWait, hawaitOp⟩ : c ≠ .txWait ∧ c ≠ .awaitOp := by rcases hc with rfl | rfl | rfl <;> decide
  have hstep := step_host hs htxWait hawaitOp hin
  obtain ⟨-, -, rfl, htx⟩ := hs
  refine ⟨requestHeaderTx Mac.broadcast majorBroadcast minorBroadcast aoeCmdQuery (s.tag + 1#32), ?_, ?_,
    fun a ha => requestHeaderTx_clear (by omega)⟩
  · rw [hstep, State.hostCommand, State.connect_eq (by exact htx), State.send_eq, toOutcome_ok]
  · exact readRange_request (n := 8) (fun _ _ => rfl) (Memory.readRange_zero fun k _ => requestHeaderTx_clear (by omega))

/-- Settles O43: the count and the command complete the composed header. -/
theorem identifyCommandSendsItsRequest : Obligations.IdentifyCommandSendsItsRequest := by
  intro s rest hs hin
  have hstep := step_host hs (by decide) (by decide) hin
  obtain ⟨-, -, hc, htx⟩ := hs
  refine ⟨issueTx s.issueHeaderTx 0x01#8 0xEC#8, ?_, ?_, fun a ha => ?_⟩
  · rw [hstep, State.hostCommand, State.operation_connected (by exact hc), State.hostIdentify_eq (by exact htx),
      send_operating hc, toOutcome_ok]
    rfl
  · exact State.readRange_issueRequest (fun a ha => issueTx_outside (.inl (by omega)))
      (readRange_issueTx _ _ fun a ha => State.issueHeaderTx_clear ha)
  · rw [issueTx_outside (by omega), State.issueHeaderTx_clear (by omega)]

/-- Settles O44: the count, the command and the sector complete the composed header. -/
theorem readCommandSendsItsRequest : Obligations.ReadCommandSendsItsRequest := by
  intro s sector count rest hs hlo hhi hsec hin
  have hstep := step_host hs (by decide) (by decide) hin
  obtain ⟨-, -, hc, htx⟩ := hs
  have hargs : argsOk s.cfg sector count = true := (argsOk_iff _ _ _).mpr ⟨hlo, hhi, hsec⟩
  refine ⟨transferTx s.issueHeaderTx (BitVec.ofNat 8 count) 0x20#8 (BitVec.ofNat 24 sector), ?_, ?_, fun a ha => ?_⟩
  · rw [hstep, State.hostCommand, State.operation_connected (by exact hc), State.hostRead_eq (by exact htx) (by exact hargs),
      send_operating hc, toOutcome_ok]
    rfl
  · exact State.readRange_issueRequest (fun a ha => transferTx_outside (.inl (by omega)))
      (readRange_transferTx _ _ _ (State.issueHeaderTx_clear (by omega)) fun a ha => State.issueHeaderTx_clear (by omega))
  · rw [transferTx_outside (by omega), State.issueHeaderTx_clear (by omega)]

/-- Settles O45: the sub-header with the W bit, then the data windows, complete the composed header. -/
theorem writeCommandSendsItsRequest : Obligations.WriteCommandSendsItsRequest := by
  intro s sector count w rest hs hlo hhi hsec hw hin
  have hstep := step_host hs (by decide) (by decide) hin
  obtain ⟨-, -, hc, htx⟩ := hs
  have hargs : argsOk s.cfg sector count = true := (argsOk_iff _ _ _).mpr ⟨hlo, hhi, hsec⟩
  obtain ⟨m, hm, hdata, hkeep⟩ := State.hostWrite_eq (s := { s with inputs := rest }) htx hargs hw
  have habove (a : Nat) (ha : 25 ≤ a) : (s.issueHeaderTx.write 24 [0x01#8]).read a = 0x00#8 := by
    rw [Memory.read_write_outside (.inr ha), State.issueHeaderTx_clear (by omega)]
  refine ⟨m, ?_, ?_, fun a ha => ?_⟩
  · rw [hstep, State.hostCommand, State.operation_connected (by exact hc), hm, send_operating hc, toOutcome_ok]
  · have hsub : m.readRange 24 12 = requestIssue 0x01#8 (BitVec.ofNat 8 count) 0x30#8 (BitVec.ofNat 24 sector) := by
      rw [Memory.readRange_congr fun k hk => hkeep (24 + k) (.inl (by omega))]
      exact readRange_transferTx _ _ _ (Memory.read_write_byte _ _ _) habove
    have hhead (a : Nat) (ha : a < 24) : m.read a = s.issueHeaderTx.read a := by
      rw [hkeep a (.inl (by omega)), transferTx_outside (.inl (by omega)), Memory.read_write_outside (.inl ha)]
      rfl
    exact Memory.readRange_append (State.readRange_issueRequest hhead hsub) hdata
  · rw [hkeep a (.inr ha), transferTx_outside (by omega)]
    exact habove a (by omega)

end Sys2Proof.Machine

/-! ## The codec: every accessor obeys its law

An accessor is a write of a field's bytes and a read of the same bytes, so its law is that reading the field after the
write gives the value back (`accessorLaw_of_write`). One lemma per kind of field shows this at any offset; each accessor
of 40_codec.md is an instance. -/

namespace Sys2Proof.Machine

open Sys2Proof

/-! ### Any accessor (R67, R68) -/

/-- A setter that writes `w` bytes from offset `o` on, and a getter that finds its field in them, obey the law. -/
theorem accessorLaw_of_write {α : Type} (acc : Accessor) (o w : Nat) (bytes : α → Memory → List Byte)
    (field : (Nat → Byte) → α) (hlen : ∀ v m, (bytes v m).length = w)
    (hback : ∀ v m, field (Memory.write m o (bytes v m)).read = v) :
    AccessorLaw o w (fun v s => s.txWrite acc o (bytes v s.tx)) (Buffer.get acc o w field) := by
  intro v s
  have hsize : s.cfg.txbufBytes = 36 + 512 * s.cfg.maxSectors := txbufBytes_eq s.cfg
  have hw : (bytes v s.tx).length = w := hlen v s.tx
  constructor
  · intro hin
    refine ⟨s.tx.write o (bytes v s.tx), State.txWrite_ok (by omega), ?_, fun a ha => ?_⟩
    · rw [Buffer.get_ok hin]
      exact congrArg Except.ok (hback v s.tx)
    · exact Memory.read_write_outside (by omega)
  · intro hout
    exact ⟨acc, State.txWrite_fault (by omega), Buffer.get_fault (Nat.not_le.mpr hout)⟩

/-! ### Each kind of field, at any offset

Each byte reads as it was written, and the bytes of a value assemble to it (`be16_byteOf` and its like). -/

/-- A byte (R75). -/
theorem accessorLaw_byte (acc : Accessor) (o : Nat) :
    AccessorLaw o 1 (fun v s => s.txWrite acc o [v]) (Buffer.get acc o 1 fun rd => rd o) :=
  accessorLaw_of_write acc o 1 (fun v _ => [v]) _ (fun _ _ => rfl) fun v m => Memory.read_write_byte m o v

/-- A bit field of one byte, set by read-modify-write (R40, R72): `part` reads it, `put` replaces it. -/
theorem accessorLaw_bits {α : Type} (acc : Accessor) (o : Nat) {part : Byte → α} {put : Byte → α → Byte}
    (hpart : ∀ b v, part (put b v) = v) :
    AccessorLaw o 1 (fun v s => s.txModify acc o fun b => put b v) (Buffer.get acc o 1 fun rd => part (rd o)) :=
  accessorLaw_of_write acc o 1 (fun v m => [put (m.read o) v]) _ (fun _ _ => rfl) fun v m => by
    rw [Memory.read_write_byte, hpart]

/-- A big-endian 16-bit field (R71). -/
theorem accessorLaw_be16 (acc : Accessor) (o : Nat) :
    AccessorLaw o 2 (fun v s => s.txWrite acc o (be16Bytes v)) (Buffer.get acc o 2 fun rd => be16 (rd o) (rd (o + 1))) :=
  accessorLaw_of_write acc o 2 (fun v _ => be16Bytes v) _ (fun _ _ => rfl) fun v m => by
    simp [Memory.read_write, be16Bytes]

/-- A big-endian 32-bit field (R79). -/
theorem accessorLaw_be32 (acc : Accessor) (o : Nat) :
    AccessorLaw o 4 (fun v s => s.txWrite acc o (be32Bytes v))
      (Buffer.get acc o 4 fun rd => be32 (rd o) (rd (o + 1)) (rd (o + 2)) (rd (o + 3))) :=
  accessorLaw_of_write acc o 4 (fun v _ => be32Bytes v) _ (fun _ _ => rfl) fun v m => by
    simp [Memory.read_write, be32Bytes]

/-- A little-endian 24-bit field (R92). -/
theorem accessorLaw_le24 (acc : Accessor) (o : Nat) :
    AccessorLaw o 3 (fun v s => s.txWrite acc o (le24Bytes v))
      (Buffer.get acc o 3 fun rd => le24 (rd o) (rd (o + 1)) (rd (o + 2))) :=
  accessorLaw_of_write acc o 3 (fun v _ => le24Bytes v) _ (fun _ _ => rfl) fun v m => by
    simp [Memory.read_write, le24Bytes]

/-- A little-endian 64-bit field (R93). -/
theorem accessorLaw_le64 (acc : Accessor) (o : Nat) :
    AccessorLaw o 8 (fun v s => s.txWrite acc o (le64Bytes v))
      (Buffer.get acc o 8 fun rd =>
        le64 (rd o) (rd (o + 1)) (rd (o + 2)) (rd (o + 3)) (rd (o + 4)) (rd (o + 5)) (rd (o + 6)) (rd (o + 7))) :=
  accessorLaw_of_write acc o 8 (fun v _ => le64Bytes v) _ (fun _ _ => rfl) fun v m => by
    simp [Memory.read_write, le64Bytes]

/-- A MAC, six bytes in frame order (R69). -/
theorem accessorLaw_mac (acc : Accessor) (o : Nat) :
    AccessorLaw o 6 (fun v s => s.txWrite acc o v.toList)
      (Buffer.get acc o 6 fun rd => (⟨rd o, rd (o + 1), rd (o + 2), rd (o + 3), rd (o + 4), rd (o + 5)⟩ : Mac)) :=
  accessorLaw_of_write acc o 6 (fun v _ => Mac.toList v) _ (fun _ _ => rfl) fun v m => by
    simp [Memory.read_write, Mac.toList]

/-- A data window of the transmit buffer is its 512 bytes. -/
theorem toList_windowOf_read (k : Nat) (m : Memory) : (windowOf k m.read).toList = m.readRange (windowOff k) 512 :=
  List.toList_toArray

/-- A data window (R94). -/
theorem accessorLaw_window (k : Nat) : AccessorLaw (windowOff k) 512 (State.setData k) (Buffer.getData k) :=
  accessorLaw_of_write .data (windowOff k) 512 (fun v _ => Vector.toList v) _ (fun v _ => Vector.length_toList) fun v m => by
    rw [← Vector.toList_inj, toList_windowOf_read, Memory.readRange_write Vector.length_toList]

/-! ### The statement -/

/-- Settles O5: each accessor is an instance of its kind of field. -/
theorem codecAccessorsReadBackWhatTheySet : Obligations.CodecAccessorsReadBackWhatTheySet :=
  ⟨accessorLaw_mac .ethDst 0, accessorLaw_mac .ethSrc 6, accessorLaw_be16 .ethType 12,
    accessorLaw_bits .aoeVer 14 verOf_withVer, accessorLaw_bits .aoeFlagResponse 14 flagResponseOf_withFlagResponse,
    accessorLaw_bits .aoeFlagError 14 flagErrorOf_withFlagError, accessorLaw_byte .aoeError 15,
    accessorLaw_be16 .aoeMajor 16, accessorLaw_byte .aoeMinor 18, accessorLaw_byte .aoeCommand 19,
    accessorLaw_be32 .aoeTag 20, accessorLaw_be16 .qBufferCount 24, accessorLaw_be16 .qFirmwareVersion 26,
    accessorLaw_byte .qSectorCount 28, accessorLaw_bits .qAoeVer 29 aoeVerOf_withAoeVer,
    accessorLaw_bits .qCcmd 29 ccmdOf_withCcmd, accessorLaw_be16 .qCslen 30, accessorLaw_byte .iAflags 24,
    accessorLaw_byte .iErrFeature 25, accessorLaw_byte .iSectorCount 26, accessorLaw_byte .iCmdStatus 27,
    accessorLaw_bits .iDeviceReady 27 deviceReadyOf_withDeviceReady,
    accessorLaw_bits .iStatusError 27 statusErrorOf_withStatusError, accessorLaw_le24 .iLba 28,
    accessorLaw_le64 .idCapacity 236, accessorLaw_window⟩

end Sys2Proof.Machine

/-! ## The responder: validation, drops and the collaborators' answers

A frame of any form is offered to the accepting step with the fields of its own bytes (`takeFrame_accepts`), and the
checks of R98 over those fields are the checks over the raw bytes (`firstFailedCheck_eq`). A valid request that is
dropped leaves the accepted state with only the seeded header in the buffer (`replyTx_header`). A Read whose storage
fails is the induction `readNext_fails` over the sectors before the failing one. -/

namespace Sys2Proof.Machine

open Sys2Proof

/-! ### `RESET` -/

/-- Settles O8: `RESET` loads the reset state, and an announcing responder's one request is the announce. -/
theorem resetReloadsEveryRegister : Obligations.ResetReloadsEveryRegister := by
  intro s rest hin
  rw [step_reset hin, State.doReset_eq, toOutcome_ok]
  simp only [resetRequests, resetOutputs, announces_iff, queryRspBytes]
  rfl

/-! ### The answers that end a transmit -/

/-- The step that takes a transmit answer from the head of a waiting responder's ports (R118, R122). -/
theorem step_txAnswer {s : State} {ok : Bool} {rest : List Input} (hr : s.cfg.role = .responder)
    (hw : s.rstate = .txWait ∨ s.rstate = .initTxWait) (hin : s.inputs = .txAnswer s.reqNo ok :: rest) :
    step s = .next ({ s with inputs := rest }.takeTxAnswer ok) :=
  step_takes_head (by rcases hw with hw | hw <;> simp [State.clearDue, hw]) hin
    ((State.accepts_txAnswer_responder hr _ _).mpr ⟨rfl, hw⟩)

/-- Settles O36: the answer to a response sets the outcome and the state alone. -/
theorem transmitAnswerEndsTheTransaction : Obligations.TransmitAnswerEndsTheTransaction := by
  intro s ok rest hr hw hin
  have htake : { s with inputs := rest }.takeTxAnswer ok = { s with inputs := rest }.transmitted ok := by
    simp [State.takeTxAnswer, hr, hw]
  rw [step_txAnswer hr (.inl hw) hin, htake]
  cases ok with
  | true => exact ⟨s.prints, rfl⟩
  | false => exact ⟨s.prints ++ [.txFail], rfl⟩

/-- Settles O37: in `R_DONE` the final clear is due. -/
theorem finalClearReturnsToIdle : Obligations.FinalClearReturnsToIdle := by
  intro s hr hd hin
  rw [step_clears (by simp [State.clearDue, hr, hd]) hin]
  rfl

/-- Settles O38: the answer to the announce clears the buffer. -/
theorem announceAnswerLeadsToIdle : Obligations.AnnounceAnswerLeadsToIdle := by
  intro s ok rest hr hw hin
  have htake : { s with inputs := rest }.takeTxAnswer ok = { s with inputs := rest }.announced ok := by
    simp [State.takeTxAnswer, hr, hw]
  rw [step_txAnswer hr (.inr hw) hin, htake]
  rfl

/-! ### The checks of R98 over raw bytes -/

theorem Mac.toList_inj {m n : Mac} : m.toList = n.toList ↔ m = n := by
  cases m
  cases n
  simp [Mac.toList]

theorem be16_eq_iff (a b : Byte) (v : BitVec 16) : be16 a b = v ↔ a.toNat * 256 + b.toNat = v.toNat := by
  rw [← BitVec.toNat_inj, be16, BitVec.toNat_append, ← Nat.shiftLeft_add_eq_or_of_lt b.isLt, Nat.shiftLeft_eq]

theorem verOf_eq_one_iff (b : Byte) : verOf b = 1#4 ↔ b.toNat / 16 = 1 := by
  revert b; decide

/-- The Ethernet type of two bytes (R71). -/
theorem be16_eq_ethertype (a b : Byte) : be16 a b = aoeEthertype ↔ a = 0x88#8 ∧ b = 0xA2#8 := by
  rw [be16_eq_iff, ← BitVec.toNat_inj, ← BitVec.toNat_inj]
  have := a.isLt
  have := b.isLt
  simp only [aoeEthertype, BitVec.toNat_ofNat]
  omega

/-- The first six bytes of a frame are its destination (R69). -/
theorem take_six {rx : List Byte} (h : 24 ≤ rx.length) : rx.take 6 = (ethDstOf (readerOf rx)).toList := by
  have hsplit : rx = bytesOf 0 6 (readerOf rx) ++ rx.drop (0 + 6) := drop_eq_bytesOf (k := 0) (by omega)
  exact (congrArg (List.take 6) hsplit).trans (List.take_left' rfl)

/-- The checks of R98 over the raw bytes are those over the fields of the header. -/
theorem firstFailedCheck_eq (s : State) {rx : List Byte} (h : 24 ≤ rx.length) :
    firstFailedCheck s.idMajor s.idMinor rx =
      s.validate (aoeFlagResponseOf (readerOf rx)) (headerOf (readerOf rx)) := by
  have hbroadcast : List.replicate 6 0xFF#8 = Mac.broadcast.toList := rfl
  have hempty : List.replicate 6 0x00#8 = Mac.empty.toList := rfl
  simp only [firstFailedCheck, if_neg (Nat.not_lt.mpr h), take_six h, hbroadcast, hempty, ne_eq, Mac.toList_inj,
    State.validate, headerOf, ethTypeOf, be16_eq_ethertype, aoeVersionOf, verOf_eq_one_iff, aoeMajorOf, not_or,
    not_and_or]
  simp only [be16_eq_iff]
  rfl

/-! ### Any frame in an idle responder -/

open Laws.KeyBytes in
/-- Every form starts with a header of its row, with which it offers its frame to a responder's accepting step (R98). -/
theorem exec_accepts (i : Instr) : ∃ h t form g, encode i = encodeHeader (response i) (command i) h ++ t ∧
    ∀ s, exec i s = s.offer (encode i) (State.accept (response i) (command i) h (encode i) form) g := by
  cases i <;> exact ⟨_, _, _, _, rfl, fun _ => rfl⟩

/-- A frame that holds the AoE header is offered to the accepting step of a responder with the fields of its bytes,
whether or not it has a form (R98, R103). -/
theorem takeFrame_accepts {rx : List Byte} (hlen : 24 ≤ rx.length) : ∃ form g, ∀ s : State,
    s.takeFrame rx = s.offer rx (State.accept (aoeFlagResponseOf (readerOf rx)) (aoeCommandOf (readerOf rx))
      (headerOf (readerOf rx)) rx form) g := by
  unfold State.takeFrame
  cases hdec : decode rx with
  | ok i =>
    obtain ⟨rfl, -⟩ := encodeUndoesDecode rx i hdec
    obtain ⟨h, t, form, g, ht, hexec⟩ := exec_accepts i
    refine ⟨form, g, fun s => (hexec s).trans ?_⟩
    rw [ht, aoeFlagResponseOf_encodeHeader, aoeCommandOf_encodeHeader, headerOf_encodeHeader]
  | error e =>
    simp only [decode, aoeHeaderBytes, if_neg (Nat.not_lt.mpr hlen)] at hdec
    split_ifs at hdec with hf hq hi hq hi hs <;> cases hdec
    · exact ⟨.ok, _, fun s => by rw [hf]; rfl⟩
    · exact ⟨fun s => .ok (s.drop .dropIssueShort), _, fun s => by rw [hi, Bool.eq_false_iff.mpr hf]; rfl⟩

/-- The step that takes a frame from the head of an idle responder's ports (R24). -/
theorem step_frame_idle {s : State} {rx : List Byte} {rest : List Input} (hr : s.cfg.role = .responder)
    (hidle : s.rstate = .idle) (hf : s.Fits rx) (hin : s.inputs = .frame rx :: rest) :
    step s = { s with inputs := rest }.takeFrame rx :=
  step_takes_head (by simp [State.clearDue, hidle]) hin ((State.accepts_frame_responder hr rx).mpr ⟨hf, hidle⟩)

/-- Settles O21: below 24 bytes the frame has no form; any other reaches the validation with the fields of its bytes. -/
theorem invalidFrameIsDroppedWithTheFirstFailingCode : Obligations.InvalidFrameIsDroppedWithTheFirstFailingCode := by
  intro s rx rest code hr hidle hf hin hcheck
  rw [step_frame_idle hr hidle hf hin]
  by_cases hlen : 24 ≤ rx.length
  · obtain ⟨form, g, htake⟩ := takeFrame_accepts hlen
    rw [firstFailedCheck_eq s hlen] at hcheck
    rw [htake, State.offer_responder (by exact hr) (by exact hidle) (by exact hf), State.accept_drop (by exact hcheck)]
    rfl
  · have hshort : rx.length < 24 := Nat.lt_of_not_le hlen
    obtain rfl : RCode.dropShort = code := by simpa [firstFailedCheck, hshort] using hcheck
    have hdec : decode rx = .error .shortFrame := if_pos hshort
    simp only [State.takeFrame, hdec, State.takeUndecoded]
    rw [State.offer_responder (by exact hr) (by exact hidle) (by exact hf)]
    rfl

/-! ### Valid requests that are dropped -/

/-- Only the reply's header is in the seeded buffer (R64, R100). -/
theorem replyTx_header (major : BitVec 16) (minor : Byte) (h : Header) (cmd : Byte) :
    (replyTx major minor h cmd).readRange 0 24 = replyHeader major minor h cmd ∧
      ∀ a, 24 ≤ a → (replyTx major minor h cmd).read a = 0x00#8 :=
  ⟨readRange_replyHeader fun _ _ => rfl, fun _ => replyTx_clear⟩

/-- The sender and the tag of a reply are the bytes of the request (R100, R101). -/
theorem replyHeader_encode (major : BitVec 16) (minor : Byte) (h : Header) (cmd : Byte) (f : Bool) (c : Byte)
    (t : List Byte) : replyHeader major minor h cmd =
      ((encodeHeader f c h ++ t).drop 6).take 6 ++ [0#8, 0#8, 0#8, 0#8, 0#8, 0#8, 0x88#8, 0xA2#8, 0x18#8, 0x00#8]
        ++ be16Bytes major ++ [minor, cmd] ++ ((encodeHeader f c h ++ t).drop 20).take 4 := rfl

/-- Settles O22: the frame's header passes the validation, and the form's rule is the drop. -/
theorem shortIssueFrameIsDropped : Obligations.ShortIssueFrameIsDropped := by
  intro s rx rest hs hf hin hcheck hcmd hshort
  have hlen : 24 ≤ rx.length := by
    by_contra hn
    simp [firstFailedCheck, Nat.lt_of_not_le hn] at hcheck
  rw [firstFailedCheck_eq s hlen] at hcheck
  obtain ⟨f, c, h, t, rfl⟩ : ∃ f c h t, rx = encodeHeader f c h ++ t := ⟨_, _, _, _, exists_header hlen⟩
  rw [aoeFlagResponseOf_encodeHeader, headerOf_encodeHeader] at hcheck
  obtain rfl : c = aoeCmdIssue := (aoeCommandOf_encodeHeader f c h t).symm.trans hcmd
  obtain rfl : f = false := by
    cases f with
    | false => rfl
    | true =>
      obtain ⟨code, hcode⟩ := s.validate_response h
      rw [hcode] at hcheck
      cases hcheck
  have hdec : decode (encodeHeader false aoeCmdIssue h ++ t) = .error (.shortIssue h) := by
    have ht : t.length < 12 := by simp at hshort; omega
    rw [decode_encodeHeader, if_neg (by decide), if_neg (by decide), if_pos rfl, if_pos ht]
  obtain ⟨-, hr, hidle, htx⟩ := hs
  obtain ⟨hhead, hclear⟩ := replyTx_header s.idMajor s.idMinor h aoeCmdIssue
  refine ⟨replyTx s.idMajor s.idMinor h aoeCmdIssue, ?_, ?_, hclear⟩
  · rw [step_frame_idle hr hidle hf hin]
    simp only [State.takeFrame, hdec, State.takeUndecoded]
    rw [State.offer_responder (by exact hr) (by exact hidle) (by exact hf), State.acceptUndecoded,
      State.accept_ok (by exact hcheck), htx, ← replyTx_eq]
    rfl
  · rw [hhead, replyHeader_encode _ _ _ _ false aoeCmdIssue t]

/-- Settles O23: the form's rule prints and drops. -/
theorem unsupportedAtaCommandIsDropped : Obligations.UnsupportedAtaCommandIsDropped := by
  intro s h ata sub data hs hk hf _ _ _
  have hexec : exec (.ataUnsupported h ata sub data) s =
      toOutcome (State.ataUnsupported { s.accepted _ aoeCmdIssue h with tAta := ata }) := offerIssue_accepted hs hk hf
  exact ⟨_, _, hexec, replyTx_header ..⟩

/-- Settles O24: the form's rule prints and drops. -/
theorem unsupportedAoeCommandIsDropped : Obligations.UnsupportedAoeCommandIsDropped := by
  intro s h command payload hs hk hf _ _
  have hexec : exec (.aoeUnsupported h command payload) s =
      toOutcome (State.aoeUnsupported (s.accepted _ command h)) := offer_accepted hs hk hf
  exact ⟨_, _, hexec, replyTx_header ..⟩

/-- A Read above the limit is dropped (R113). -/
theorem State.readStart_above {s : State} {sub : IssueSub} (hc : s.cfg.maxSectors < sub.sectorCount.toNat) :
    State.readStart sub s = .ok ({ s with tCount := sub.sectorCount, tLba := sub.lba }.drop .dropCount) := if_pos hc

/-- A Write above the limit is dropped before its length is looked at (R113, R154). -/
theorem State.writeStart_above {s : State} {sub : IssueSub} (hc : s.cfg.maxSectors < sub.sectorCount.toNat) :
    State.writeStart sub s = .ok ({ s with tCount := sub.sectorCount, tLba := sub.lba }.drop .dropCount) := if_pos hc

/-- A Write within the limit that does not hold its data is dropped (R110). -/
theorem State.writeStart_short {s : State} {sub : IssueSub} (hc : sub.sectorCount.toNat ≤ s.cfg.maxSectors)
    (hl : s.rx.length < 36 + 512 * sub.sectorCount.toNat) :
    State.writeStart sub s = .ok ({ s with tCount := sub.sectorCount, tLba := sub.lba }.drop .dropWriteShort) :=
  (if_neg (Nat.not_lt.mpr hc)).trans (if_pos hl)

/-- Settles O30: both forms compare the count with the limit first. -/
theorem countAboveTheLimitIsDropped : Obligations.CountAboveTheLimitIsDropped := by
  intro s h sub data hs hk hfr hfw hc
  have hread : exec (.ataReadRetry h sub data) s =
      toOutcome (State.readStart sub { s.accepted _ aoeCmdIssue h with tAta := ataCmdRead }) :=
    offerIssue_accepted hs hk hfr
  have hwrite : exec (.ataWriteRetry h sub data) s =
      toOutcome (State.writeStart sub { s.accepted _ aoeCmdIssue h with tAta := ataCmdWrite }) :=
    offerIssue_accepted hs hk hfw
  rw [State.readStart_above (by exact hc)] at hread
  rw [State.writeStart_above (by exact hc)] at hwrite
  exact ⟨⟨_, hread, replyTx_header ..⟩, ⟨_, hwrite, replyTx_header ..⟩⟩

/-- Settles O31: the frame is 36 bytes and the data, which is too short. -/
theorem writeShorterThanItsCountIsDropped : Obligations.WriteShorterThanItsCountIsDropped := by
  intro s h sub data hs hk hf hc hd
  have hwrite : exec (.ataWriteRetry h sub data) s =
      toOutcome (State.writeStart sub { s.accepted _ aoeCmdIssue h with tAta := ataCmdWrite }) :=
    offerIssue_accepted hs hk hf
  have hshort : (encode (.ataWriteRetry h sub data)).length < 36 + 512 * sub.sectorCount.toNat := by
    rw [encode, length_encodeIssue]; omega
  rw [State.writeStart_short (by exact hc) (by exact hshort)] at hwrite
  exact ⟨_, hwrite, replyTx_header ..⟩

/-! ### The first storage request -/

/-- Settles O27: the first sector of a Read is not done. -/
theorem readRequestsTheFirstSector : Obligations.ReadRequestsTheFirstSector := by
  intro s h sub data hs hk hf hlo hhi
  refine ⟨_, ?_, replyTx_header ..⟩
  rw [exec_ataReadRetry hs hk hf hhi,
    State.readNext_more (by rw [State.transferring_tIdx, State.transferring_tCount]; omega)]
  rfl

/-- Settles O28: the first sector of a Write is not done, and its window starts the data. -/
theorem writeRequestsTheFirstSector : Obligations.WriteRequestsTheFirstSector := by
  intro s h sub data hs hk hf hlo hhi hd
  have hlong : 36 + 512 * 0 + 512 ≤ (encode (.ataWriteRetry h sub data)).length := by
    rw [encode, length_encodeIssue]; omega
  refine ⟨_, windowOf 0 (readerOf (encode (.ataWriteRetry h sub data))), ?_, ?_, replyTx_header ..⟩
  · rw [windowOf_toList hlong, encode]
    exact congrArg (List.take 512) (drop_encodeIssueSub ..)
  · rw [exec_ataWriteRetry hs hk hf hhi hd,
      State.writeNext_more (by rw [State.transferring_tIdx, State.transferring_tCount]; omega) (by exact hlong)]
    rfl

/-! ### The storage answers -/

/-- Settles O32: the data lands in its window, then ERR is set. -/
theorem failedReadSendsNothing : Obligations.FailedReadSendsNothing := by
  intro s d rest hr hw hidx hin
  have hd : d.toList.length = 512 := Vector.length_toList
  refine ⟨errTx (s.tx.write (36 + 512 * s.tIdx.toNat) d.toList), s.prints ++ [.readFail], ?_, ?_, ?_,
    fun a hne ha => ?_⟩
  · rw [step_readAnswer hr hw hin, State.readAnswered_fail (by exact hidx), State.storageFail_eq, toOutcome_ok]
  · rw [Memory.readRange_congr fun k _ => errTx_outside (by omega)]
    exact Memory.readRange_write hd
  · rw [errTx_status, Memory.read_write_outside (.inl (by omega))]
  · rw [errTx_outside hne, Memory.read_write_outside (by rw [hd]; exact ha)]

/-- Settles O33: the data lands in its window, and the next sector is not done. -/
theorem readGoesOnWithTheNextSector : Obligations.ReadGoesOnWithTheNextSector := by
  intro s d rest hr hw hlt hmax hin
  have hd : d.toList.length = 512 := Vector.length_toList
  have hnext : (s.tIdx + 1#9).toNat = s.tIdx.toNat + 1 := toNat_nextIdx (n := s.tCount) (by omega)
  refine ⟨s.tx.write (36 + 512 * s.tIdx.toNat) d.toList, ?_, Memory.readRange_write hd, fun a ha => ?_⟩
  · rw [step_readAnswer hr hw hin, State.readAnswered_ok (by simp only; omega),
      State.readNext_more (by simp only [hnext]; omega), toOutcome_ok]
    simp only [hnext, hw, Nat.add_assoc]
  · exact Memory.read_write_outside (by rw [hd]; exact ha)

/-- Settles O34: ERR is set. -/
theorem failedWriteSendsNothing : Obligations.FailedWriteSendsNothing := by
  intro s rest hr hw hin
  refine ⟨errTx s.tx, s.prints ++ [.writeFail], ?_, errTx_status s.tx, fun a hne => errTx_outside hne⟩
  rw [step_writeAnswer hr hw hin, State.writeAnswered_fail, State.storageFail_eq, toOutcome_ok]

/-- Settles O35: the next sector is not done, and its window is in the held frame. -/
theorem writeGoesOnWithTheNextSector : Obligations.WriteGoesOnWithTheNextSector := by
  intro s rest hr hw hlt hlong hin
  have hnext : (s.tIdx + 1#9).toNat = s.tIdx.toNat + 1 := toNat_nextIdx (n := s.tCount) (by omega)
  have hwindow : 36 + 512 * (s.tIdx.toNat + 1) + 512 ≤ s.rx.length := by omega
  have hoff : 36 + 512 * (s.tIdx.toNat + 1) = 36 + 512 * s.tIdx.toNat + 512 := by omega
  refine ⟨windowOf (s.tIdx.toNat + 1) (readerOf s.rx), by rw [windowOf_toList hwindow, hoff], ?_⟩
  rw [step_writeAnswer hr hw hin, State.writeAnswered_ok,
    State.writeNext_more (by simp only [hnext]; omega) (by simp only [hnext]; exact hwindow), toOutcome_ok]
  simp only [hnext, hw, Nat.add_assoc]

/-! ### A Read whose storage fails -/

/-- The state that waits for the answer to the sector in progress, with `is` at the ports (R108). -/
def State.reading (s : State) (is : List Input) : State :=
  { s with
    rstate := .sreadWait, reqNo := s.reqNo + 1, outputs := s.outputs ++ [.sread (s.tLba.toNat + s.tIdx.toNat)]
    inputs := is }

/-- With a sector left and an answer at the ports, the read loop requests the sector and takes the answer (R108). -/
theorem readNext_answered {s : State} {ok : Bool} {d : Sector} {is : List Input} (hr : s.cfg.role = .responder)
    (hlt : s.tIdx.toNat < s.tCount.toNat) (hin : s.inputs = .readAnswer (s.reqNo + 1) ok d :: is) :
    ∃ u, s.readNext = .ok u ∧ step u = toOutcome ((s.reading is).readAnswered ok d) :=
  ⟨_, State.readNext_more (by omega), step_readAnswer (by exact hr) rfl (by exact hin)⟩

/-- After the requests `reqs` the read of sector `idx` failed: nothing is sent, the buffer holds the composed reply `m`,
and `rest` still stands at the ports (R109). -/
structure ReadFailed (s t : State) (idx : Nat) (reqs : List Output) (m : Memory) (rest : List Input) : Prop where
  rstate : t.rstate = .done
  inputs : t.inputs = rest
  outcome : t.outcome = .readFail
  failIdx : t.failIdx.toNat = idx
  rspValid : t.rspValid = false
  outputs : t.outputs = s.outputs ++ reqs
  tx : t.tx = m

/-- One request more, before the others. -/
theorem ReadFailed.cons {s u t : State} {r : Output} {idx : Nat} {reqs : List Output} {m : Memory} {rest : List Input}
    (h : ReadFailed u t idx reqs m rest) (hout : u.outputs = s.outputs ++ [r]) :
    ReadFailed s t idx (r :: reqs) m rest :=
  { h with outputs := by rw [h.outputs, hout]; simp }

/-- The read loop (R108, R109): from a sector `T_IDX` on, with successful answers at the ports for the sectors `ds` and
a failing one for the sector after them. -/
theorem readNext_fails {ds : List Sector} {bad : Sector} {rest : List Input} {s : State} (hr : s.cfg.role = .responder)
    (hn : s.tIdx.toNat + ds.length < s.tCount.toNat) (hc : s.tCount.toNat ≤ s.cfg.maxSectors)
    (hin : s.inputs = readAnswers (s.reqNo + 1) ds ++ .readAnswer (s.reqNo + ds.length + 1) false bad :: rest) :
    ∃ u t, s.readNext = .ok u ∧ Host.Core.run Sys2Proof.core (ds.length + 1) u = .next t ∧
      ReadFailed s t (s.tIdx.toNat + ds.length) (readRequests (s.tLba.toNat + s.tIdx.toNat) (ds.length + 1))
        (errTx (sectorsTx s.tx s.tIdx.toNat (ds ++ [bad]))) rest := by
  induction ds generalizing s with
  | nil =>
    obtain ⟨u, hu, hstep⟩ := readNext_answered hr hn hin
    rw [State.readAnswered_fail (by exact hn.trans_le hc), State.storageFail_eq, toOutcome_ok] at hstep
    exact ⟨u, _, hu, run_step hstep, rfl, rfl, rfl, rfl, rfl, rfl, rfl⟩
  | cons d ds ih =>
    have hlen (k : Nat) : k + (d :: ds).length = k + 1 + ds.length := by rw [List.length_cons]; omega
    rw [hlen] at hn hin ⊢
    have hlt : s.tIdx.toNat < s.tCount.toNat := by omega
    have hnext : (s.tIdx + 1#9).toNat = s.tIdx.toNat + 1 := toNat_nextIdx hlt
    obtain ⟨u, hu, hstep⟩ := readNext_answered hr hlt hin
    rw [State.readAnswered_ok (by exact hlt.trans_le hc)] at hstep
    obtain ⟨v, t, hv, hrun, hfail⟩ := ih
      (s := { s.reading
          (readAnswers (s.reqNo + 1 + 1) ds ++ .readAnswer (s.reqNo + 1 + ds.length + 1) false bad :: rest) with
        tx := s.tx.write (36 + 512 * s.tIdx.toNat) d.toList, tIdx := s.tIdx + 1#9 })
      hr (by simp only [hnext, State.reading]; exact hn) hc rfl
    have hstep' : step u = .next v := hstep.trans (congrArg toOutcome hv)
    simp only [hnext, State.reading] at hfail
    exact ⟨u, t, hu, (run_step hstep').trans hrun, hfail.cons rfl⟩

/-- The first 36 bytes of a failed Issue reply: the seeded header, then ERR (R64, R109). -/
theorem readRange_failedReply {m : Memory} {major : BitVec 16} {minor : Byte} {h : Header} {cmd : Byte}
    (hm : ∀ a, a < 36 → m.read a = (replyTx major minor h cmd).read a) :
    (errTx m).readRange 0 36 = replyHeader major minor h cmd ++ replyStatus 0x01#8 := by
  have hz (a : Nat) (hlo : 24 ≤ a) (hhi : a < 36) : m.read a = 0x00#8 := by rw [hm a hhi, replyTx_clear hlo]
  refine Memory.readRange_append (n := 24) (k := 12) (readRange_replyHeader fun a ha => ?_)
    (readRange_status ?_ fun a hlo hhi hne => ?_)
  · rw [errTx_outside (by omega), hm a (by omega)]
  · rw [errTx_status, hz 27 (by omega) (by omega)]
    rfl
  · rw [errTx_outside hne, hz a hlo hhi]

/-- Settles O41: the step that takes the request enters the read loop, which ends at the failing answer. -/
theorem readFailureTransmitsNothing : Obligations.ReadFailureTransmitsNothing := by
  intro s h sub data ds bad rest hs hk hf hn hmax hin
  have hrole : s.cfg.role = .responder := by obtain ⟨-, hrole, -⟩ := hs; exact hrole
  obtain ⟨u, t, hu, hrun, hfail⟩ := readNext_fails (ds := ds) (bad := bad) (rest := rest)
    (s := { s with
      inputs := readAnswers (s.reqNo + 1) ds ++ Input.readAnswer (s.reqNo + ds.length + 1) false bad :: rest
    }.transferring (encode (.ataReadRetry h sub data)) h 0x20#8 sub)
    hrole (by simpa using hn) hmax rfl
  have hstep : step s = .next u := by
    rw [step_frame_ready hs hf rfl hin, exec_ataReadRetry (by exact hs) (by exact hk) (by exact hf) (by exact hmax), hu,
      toOutcome_ok]
  have hidx := hfail.failIdx
  have hout := hfail.outputs
  have htx := hfail.tx
  simp only [State.transferring_tx, State.transferring_tLba, State.transferring_tIdx, State.transferring_outputs,
    Nat.add_zero, Nat.zero_add] at hidx hout htx
  refine ⟨t, (run_step hstep).trans hrun, hfail.rstate, hfail.inputs, hfail.outcome, hidx, hfail.rspValid, hout, ?_⟩
  rw [htx]
  exact readRange_failedReply fun a ha => sectorsTx_outside (.inl (by omega))

end Sys2Proof.Machine

/-! ## The two roles together

What the initiator sends is the encoding of a request that the responder takes, and what the responder sends is the
encoding of a response that the initiator takes (`encodeHeader_request`, `encodeHeader_reply`); each role's run is a
statement of its own, and the round trips of R147 put them side by side. -/

namespace Sys2Proof.Machine

open Sys2Proof

/-! ### The frames of R64 and R65 as encodings -/

/-- The header that either role composes: the empty source, no error, nothing reserved (R64, R65). -/
def composedHeader (dst : Mac) (major : BitVec 16) (minor : Byte) (tag : BitVec 32) : Header where
  dst       := dst
  src       := Mac.empty
  etype     := aoeEthertype
  ver       := aoeVersion
  flagError := false
  flagsRsvd := 0#2
  error     := 0#8
  major     := major
  minor     := minor
  tag       := tag

/-- The Issue sub-header that either role composes (R64, R65). -/
def composedSub (aflags count : Byte) (lba : BitVec 24) : IssueSub where
  aflags      := aflags
  errFeature  := 0#8
  sectorCount := count
  lba         := lba
  lba3        := 0#8
  lba4        := 0#8
  lba5        := 0#8
  rsvd0       := 0#8
  rsvd1       := 0#8

theorem be16Bytes_aoeEthertype : be16Bytes aoeEthertype = [0x88#8, 0xA2#8] := by decide

theorem encodeHeader_request (dst : Mac) (major : BitVec 16) (minor cmd : Byte) (tag : BitVec 32) :
    encodeHeader false cmd (composedHeader dst major minor tag) = requestHeader dst major minor cmd tag := by
  have hbyte14 : byte14 1#4 false false 0#2 = 0x10#8 := by decide
  simp [encodeHeader, composedHeader, requestHeader, hbyte14, be16Bytes_aoeEthertype, Mac.toList, Mac.empty]

theorem encodeHeader_reply (major : BitVec 16) (minor cmd : Byte) (h : Header) :
    encodeHeader true cmd (composedHeader h.src major minor h.tag) = replyHeader major minor h cmd := by
  have hbyte14 : byte14 1#4 true false 0#2 = 0x18#8 := by decide
  simp [encodeHeader, composedHeader, replyHeader, hbyte14, be16Bytes_aoeEthertype, Mac.toList, Mac.empty]

theorem encodeIssueSub_request (aflags count cmd : Byte) (lba : BitVec 24) :
    encodeIssueSub cmd (composedSub aflags count lba) = requestIssue aflags count cmd lba := rfl

theorem encodeIssueSub_reply (status : Byte) :
    encodeIssueSub status (composedSub 0#8 0#8 0#24) = replyStatus status := rfl

/-- The READ request as a frame of the opcode table (R65, R134). -/
theorem encode_readRequest (dst : Mac) (major : BitVec 16) (minor : Byte) (tag : BitVec 32) (count : Byte)
    (lba : BitVec 24) :
    encode (.ataReadRetry (composedHeader dst major minor tag) (composedSub 0x00#8 count lba) []) =
      requestHeader dst major minor 0x00#8 tag ++ requestIssue 0x00#8 count 0x20#8 lba := by
  rw [encode, encodeHeader_request, encodeIssueSub_request, List.append_nil]

/-- The WRITE request as a frame of the opcode table (R65, R135). -/
theorem encode_writeRequest (dst : Mac) (major : BitVec 16) (minor : Byte) (tag : BitVec 32) (count : Byte)
    (lba : BitVec 24) (data : List Byte) :
    encode (.ataWriteRetry (composedHeader dst major minor tag) (composedSub 0x01#8 count lba) data) =
      requestHeader dst major minor 0x00#8 tag ++ requestIssue 0x01#8 count 0x30#8 lba ++ data := by
  rw [encode, encodeHeader_request, encodeIssueSub_request, List.append_assoc]

/-- A transfer's reply as a frame of the opcode table (R64). -/
theorem encode_reply (major : BitVec 16) (minor : Byte) (h : Header) (status : Byte) (data : List Byte) :
    encode (.ataResponse (composedHeader h.src major minor h.tag) (.full status (composedSub 0#8 0#8 0#24) data)) =
      replyHeader major minor h 0x00#8 ++ replyStatus status ++ data := by
  rw [encode, encodeIssueTail, encodeHeader_reply, encodeIssueSub_reply, List.append_assoc]

/-! ### A response in an initiator that waits for it -/

/-- The success test on a response that holds its whole sub-header, for `n` bytes of data (R140 to R142). -/
theorem responseOk_full (h : Header) (status : Byte) (sub : IssueSub) (data : List Byte) (n : Nat) :
    responseOk (encode (.ataResponse h (.full status sub data))) (36 + n) h =
      .ok (decide (n ≤ data.length ∧ headerOk h = true) && (!statusErrorOf status && deviceReadyOf status)) := by
  have hlen : (encode (.ataResponse h (.full status sub data))).length = 36 + data.length :=
    length_encodeIssue true aoeCmdIssue h status sub data
  have hstatus : readerOf (encode (.ataResponse h (.full status sub data))) 27 = status :=
    iCmdStatusOf_encode true aoeCmdIssue h status sub data
  have hbound : 27 + 1 ≤ (encode (.ataResponse h (.full status sub data))).length := by omega
  have herr : (Buffer.rx (encode (.ataResponse h (.full status sub data)))).getIStatusError =
      .ok (statusErrorOf status) :=
    (Buffer.get_ok (b := .rx _) hbound).trans (congrArg (fun b => Except.ok (statusErrorOf b)) hstatus)
  have hready : (Buffer.rx (encode (.ataResponse h (.full status sub data)))).getIDeviceReady =
      .ok (deviceReadyOf status) :=
    (Buffer.get_ok (b := .rx _) hbound).trans (congrArg (fun b => Except.ok (deviceReadyOf b)) hstatus)
  simp only [responseOk, herr, hready, hlen, Nat.add_le_add_iff_left]
  split
  · next hgood => simp only [hgood, and_self, decide_true, Bool.true_and]; rfl
  · next hbad => simp only [hbad, decide_false, Bool.false_and]

/-- The step that takes a matching ATA response from the head of a waiting initiator's ports decodes it (R137, R138). -/
theorem step_ataResponse {s : State} {h : Header} {r : IssueTail} {rest : List Input} (hr : s.cfg.role = .initiator)
    (hc : s.cstate = .awaitOp) (hk : s.opKind ≠ .query) (hm : s.ResponseMatches h) (hw : r.wellFormed = true)
    (hf : s.Fits (encode (.ataResponse h r))) (hin : s.inputs = .frame (encode (.ataResponse h r)) :: rest) :
    step s = toOutcome ({ s with inputs := rest }.ataAnswered h (encode (.ataResponse h r))) := by
  have ha : s.accepts (.frame (encode (.ataResponse h r))) = true :=
    (State.accepts_frame_initiator hr _).mpr ⟨hf, by simp [hc]⟩
  have hmatch : { s with inputs := rest }.tagMatches true aoeCmdIssue h = true := by
    obtain ⟨htype, hver, htag⟩ := hm
    simp [State.tagMatches, hk, htype, hver, htag]
  rw [stepRunsTheDecodedFrame s [] rest _ _ hin (by simp) ha (decodeUndoesEncode _ hw), exec, execAtaResponse,
    State.offer_initiator (by exact hr) (by simp [hc]) (by exact hf)]
  exact congrArg toOutcome ((if_pos (.inr hc)).trans (if_pos hmatch))

/-- The Read response that carries every sector of the request completes it (R141). -/
theorem State.readResponse_full {s : State} {h : Header} {sub : IssueSub} {data : List Byte}
    (hh : headerOk h = true) (hd : data.length = 512 * s.opCount.toNat) :
    s.readResponse h (encode (.ataResponse h (.full 0x40#8 sub data))) = .ok (s.complete true .ok data) := by
  have hdrop : (encode (.ataResponse h (.full 0x40#8 sub data))).drop 36 = data := drop_encodeIssueSub ..
  have hok : responseOk (encode (.ataResponse h (.full 0x40#8 sub data))) (36 + 512 * s.opCount.toNat) h =
      .ok true := by
    rw [responseOk_full, hh, hd, decide_eq_true ⟨Nat.le_refl _, rfl⟩]
    rfl
  simp only [State.readResponse, issueHdrBytes, sectorBytes, hok, bind, Except.bind, if_true, hdrop,
    List.take_of_length_le (Nat.le_of_eq hd)]
  rfl

/-- The Write response completes the request (R142). -/
theorem State.writeResponse_full {s : State} {h : Header} {sub : IssueSub} {data : List Byte} (hh : headerOk h = true) :
    s.writeResponse h (encode (.ataResponse h (.full 0x40#8 sub data))) = .ok (s.complete true .ok []) := by
  have hok : responseOk (encode (.ataResponse h (.full 0x40#8 sub data))) 36 h = .ok true := by
    rw [responseOk_full (n := 0), hh, decide_eq_true ⟨Nat.zero_le _, rfl⟩]
    rfl
  simp only [State.writeResponse, issueHdrBytes, hok, bind, Except.bind, if_true]
  rfl

/-! ### The initiator's request and its transmit answer -/

/-- A connected initiator after an operation's request, the event `e`, has been sent (R131, R133 to R135). -/
def State.awaiting (s : State) (kind : OpKind) (count : Byte) (e : Output) : State :=
  { s with
    inputs := [], tx := Memory.empty, tag := s.tag + 1#32, opKind := kind, opCount := count, cPrev := .connected
    cstate := .awaitOp, strayCnt := 0, reqNo := s.reqNo + 1, outputs := s.outputs ++ [e] }

/-- The step that takes the answer to an operation's transmit: sent, the initiator awaits the response (R131). -/
theorem step_sent {s : State} {rest : List Input} (hr : s.cfg.role = .initiator) (hc : s.cstate = .txWait)
    (hk : s.opKind = .identify ∨ s.opKind = .read ∨ s.opKind = .write)
    (hin : s.inputs = .txAnswer s.reqNo true :: rest) :
    step s = .next { s with inputs := rest, tx := Memory.empty, cstate := .awaitOp, strayCnt := 0 } := by
  have hstep : step s = .next ({ s with inputs := rest }.takeTxAnswer true) :=
    step_takes_head (by simp [State.clearDue, hr]) hin ((State.accepts_txAnswer_initiator hr _ _).mpr ⟨rfl, hc⟩)
  rw [hstep]
  rcases hk with hk | hk | hk <;> simp [State.takeTxAnswer, hr, State.sent, hk, State.clearTx]

/-- A host command that sends a request, and the answer to its transmit (R131). -/
theorem run_request {s : State} {cmd : HostCmd} {kind : OpKind} {count : Byte} {m : Memory} {e : Output}
    (hr : s.cfg.role = .initiator) (hk : kind = .identify ∨ kind = .read ∨ kind = .write)
    (hsend : step { s with inputs := [.host cmd, .txAnswer (s.reqNo + 1) true] } = .next { s with
      inputs := [.txAnswer (s.reqNo + 1) true], tx := m, tag := s.tag + 1#32, opKind := kind, opCount := count
      cPrev := .connected, cstate := .txWait, reqNo := s.reqNo + 1, outputs := s.outputs ++ [e] }) :
    Host.Core.run Sys2Proof.core 2 { s with inputs := [.host cmd, .txAnswer (s.reqNo + 1) true] } =
      .next (s.awaiting kind count e) :=
  (run_step hsend).trans ((run_step (step_sent (by exact hr) rfl (by exact hk) rfl)).trans (run_zero _))

/-- The count of a transfer that R136 allows is held by its byte. -/
theorem toNat_count {c : Config} (hc : c.wf) {n : Nat} (hn : n ≤ c.maxSectors) : (BitVec.ofNat 8 n).toNat = n := by
  obtain ⟨-, hmax, -⟩ := hc
  rw [BitVec.toNat_ofNat, Nat.mod_eq_of_lt (by omega)]

/-- The sector of a transfer that R136 allows is held by the 24 bits of the LBA. -/
theorem toNat_composedSub_lba (aflags count : Byte) {n : Nat} (hn : n ≤ 2 ^ 24 - 1) :
    (composedSub aflags count (BitVec.ofNat 24 n)).lba.toNat = n := by
  rw [composedSub, BitVec.toNat_ofNat, Nat.mod_eq_of_lt (by omega)]

/-- A request to the empty address passes the checks of a responder with the sender's own major and minor (R98). -/
theorem requestOk_composedHeader {i r : State} (hdest : i.dest = ⟨0#8, 0#8, 0#8, 0#8, 0#8, 0#8⟩)
    (hmajor : i.idMajor = r.idMajor) (hminor : i.idMinor = r.idMinor) (tag : BitVec 32) :
    r.RequestOk (composedHeader i.dest i.idMajor i.idMinor tag) :=
  ⟨.inr hdest, rfl, rfl, rfl, rfl, .inl hmajor, .inl hminor⟩

/-- A transfer's reply to a waiting initiator is on the link, and its decoder completes with `data` (R137, R143). -/
theorem step_reply {s t : State} {kind : OpKind} {count : Byte} {e : Output} {h : Header} {major : BitVec 16}
    {minor : Byte} {data : List Byte} (hr : s.cfg.role = .initiator) (hk : kind ≠ .query) (htag : h.tag = s.tag + 1#32)
    (hf : 36 + data.length ≤ s.cfg.rxMaxBytes)
    (hdec : (s.awaiting kind count e).ataAnswered (composedHeader h.src major minor h.tag) (encode
      (.ataResponse (composedHeader h.src major minor h.tag) (.full 0x40#8 (composedSub 0#8 0#8 0#24) data))) = .ok t) :
    step { s.awaiting kind count e with
      inputs := [.frame (replyHeader major minor h 0x00#8 ++ replyStatus 0x40#8 ++ data)] } = .next t := by
  rw [← encode_reply, step_ataResponse (by exact hr) rfl (by exact hk) ⟨rfl, rfl, by exact htag⟩ rfl ?_ rfl]
  · exact congrArg toOutcome hdec
  · rw [State.Fits, encode]
    exact (length_encodeIssue ..).trans_le hf

/-! ### The statements -/

/-- Settles O59: O44 gives the request, O39 the responder's run on it, and its reply matches and completes the READ. -/
theorem readRoundTripDeliversTheStoredBytes : Obligations.ReadRoundTripDeliversTheStoredBytes := by
  intro i r sector ds hi hdest hr hmajor hminor hlo hci hcr hsec hfr hfi
  have ⟨hwf, hrole, _⟩ := hi
  have hn : (BitVec.ofNat 8 ds.length).toNat = ds.length := toNat_count hwf hci
  have hdata : (sectorBytesOf ds).length = 512 * (BitVec.ofNat 8 ds.length).toNat := by rw [hn, length_sectorBytesOf]
  obtain ⟨m, hsend, hbytes, -⟩ := readCommandSendsItsRequest
    { i with inputs := [.host (.read sector ds.length), .txAnswer (i.reqNo + 1) true] } sector ds.length
    [.txAnswer (i.reqNo + 1) true] hi hlo hci hsec rfl
  rw [hbytes, ← encode_readRequest] at hsend
  have hread := readSendsEverySectorInOrder
    { r with inputs := .frame (encode (.ataReadRetry (composedHeader i.dest i.idMajor i.idMinor (i.tag + 1#32))
        (composedSub 0x00#8 (BitVec.ofNat 8 ds.length) (BitVec.ofNat 24 sector)) [])) :: readAnswers (r.reqNo + 1) ds }
    _ _ [] ds [] hr (requestOk_composedHeader hdest hmajor hminor _) hfr hn hcr (by rw [List.append_nil])
  obtain ⟨t, hrun, -, -, -, -, -, hout⟩ := hread
  rw [toNat_composedSub_lba _ _ hsec] at hout
  have hfits : 36 + (sectorBytesOf ds).length ≤ i.cfg.rxMaxBytes := by rw [length_sectorBytesOf]; exact hfi
  exact ⟨i.awaiting .read (BitVec.ofNat 8 ds.length) _, _, t, _, _,
    run_request hrole (.inr (.inl rfl)) hsend, rfl, hrun, hout,
    step_reply hrole (by decide) rfl hfits (State.readResponse_full rfl hdata),
    rfl, rfl, rfl, rfl, List.append_assoc ..⟩

/-- Settles O60: O45 gives the request, O40 the responder's run on it, and its reply matches and completes the WRITE. -/
theorem writeRoundTripStoresTheHostsBytes : Obligations.WriteRoundTripStoresTheHostsBytes := by
  intro i r sector ds hi hdest hr hmajor hminor hlo hci hcr hsec hfr hfi
  have ⟨hwf, hrole, _⟩ := hi
  have hn : (BitVec.ofNat 8 ds.length).toNat = ds.length := toNat_count hwf hci
  obtain ⟨m, hsend, hbytes, -⟩ := writeCommandSendsItsRequest
    { i with inputs := [.host (.write sector ds.length (sectorBytesOf ds)), .txAnswer (i.reqNo + 1) true] } sector
    ds.length (sectorBytesOf ds) [.txAnswer (i.reqNo + 1) true] hi hlo hci hsec (length_sectorBytesOf ds) rfl
  rw [hbytes, ← encode_writeRequest] at hsend
  have hwrite := writeStoresEverySectorInOrder
    { r with inputs := .frame (encode (.ataWriteRetry (composedHeader i.dest i.idMajor i.idMinor (i.tag + 1#32))
        (composedSub 0x01#8 (BitVec.ofNat 8 ds.length) (BitVec.ofNat 24 sector)) (sectorBytesOf ds)))
        :: writeAnswers (r.reqNo + 1) ds.length }
    (composedHeader i.dest i.idMajor i.idMinor (i.tag + 1#32))
    (composedSub 0x01#8 (BitVec.ofNat 8 ds.length) (BitVec.ofNat 24 sector)) ds [] []
  rw [List.append_nil, List.append_nil] at hwrite
  obtain ⟨t, hrun, -, -, -, -, -, hout⟩ := hwrite hr (requestOk_composedHeader hdest hmajor hminor _)
    (by rw [State.Fits, encode, length_encodeIssue, length_sectorBytesOf]; exact hfr) hn hcr rfl
  rw [toNat_composedSub_lba _ _ hsec, ← List.append_nil (replyHeader .. ++ _)] at hout
  exact ⟨i.awaiting .write (BitVec.ofNat 8 ds.length) _, _, t, _, _,
    run_request hrole (.inr (.inr rfl)) hsend, rfl, hrun, hout,
    step_reply hrole (by decide) rfl hfi (State.writeResponse_full rfl),
    rfl, rfl, rfl, List.append_assoc ..⟩

end Sys2Proof.Machine

/-! ## The initiator: refusals, transmit answers, responses, strays and timeouts

Every frame that an initiator takes, of any form or none, is one step of `State.receive` over the raw tag matcher
(`takeFrame_initiator`); the other inputs run their own operation. An operation ends in `State.complete`, which
`State.complete_awaitOp` writes out. -/

namespace Sys2Proof.Machine

open Sys2Proof

/-! ### An input at the head of an initiator's ports -/

/-- An initiator has no internal step, so an accepted input at the head of its ports is taken (R24). -/
theorem step_initiator {s : State} {i : Input} {rest : List Input} (hr : s.cfg.role = .initiator)
    (hin : s.inputs = i :: rest) (ha : s.accepts i = true) : step s = State.take i { s with inputs := rest } :=
  step_takes_head (by simp [State.clearDue, hr]) hin ha

/-- What `complete` leaves of an operation that waits for its response (R146). -/
theorem State.complete_awaitOp {s : State} (hc : s.cstate = .awaitOp) (r : Bool) (c : CCode) (d : List Byte) :
    s.complete r c d = { s with
      cResult := r, cOutcome := c, rdata := if r then d else [], opKind := .none, strayCnt := 0, cstate := .connected
      outputs := s.outputs ++ [.done r c (if r then d else [])] } := by
  simp only [State.complete, hc, true_or, if_true]

/-- What `complete` leaves of a connected initiator (R146). -/
theorem State.complete_connected {s : State} (hc : s.cstate = .connected) (r : Bool) (c : CCode) (d : List Byte) :
    s.complete r c d = { s with
      cResult := r, cOutcome := c, rdata := if r then d else [], opKind := .none, strayCnt := 0
      outputs := s.outputs ++ [.done r c (if r then d else [])] } := by
  simp only [State.complete, hc, reduceCtorEq, or_self, if_false]

/-! ### Host commands that are refused -/

/-- A host command that an initiator accepts is run (R127). -/
theorem step_hostCommand {s : State} {cmd : HostCmd} {rest : List Input} (hr : s.cfg.role = .initiator)
    (hc : s.cstate ≠ .txWait ∧ s.cstate ≠ .awaitOp) (hin : s.inputs = .host cmd :: rest) :
    step s = toOutcome ({ s with inputs := rest }.hostCommand cmd) :=
  step_initiator hr hin ((State.accepts_host_initiator hr cmd).mpr hc)

/-- Outside `C_CONNECTED` every command but CONNECT is refused, its arguments unread (R128, R154). -/
theorem State.hostCommand_notConnected {s : State} {cmd : HostCmd} (hc : s.cstate ≠ .connected)
    (hcmd : cmd ≠ .connect) : s.hostCommand cmd = .ok s.refuseNotConnected := by
  cases cmd with
  | connect => exact absurd rfl hcmd
  | identify => exact if_neg hc
  | read sector count => exact if_neg hc
  | write sector count w => exact if_neg hc

/-- Settles O46: before discovery the state decides, and an operation is refused. -/
theorem operationBeforeDiscoveryIsRefused : Obligations.OperationBeforeDiscoveryIsRefused := by
  intro s cmd rest hr hc hcmd hin
  have hwait : (s.cstate ≠ .txWait ∧ s.cstate ≠ .awaitOp) ∧ s.cstate ≠ .connected := by
    rcases hc with hc | hc <;> simp [hc]
  rw [step_hostCommand hr hwait.1 hin, State.hostCommand_notConnected (by exact hwait.2) hcmd]
  rfl

/-- READ with arguments that R136 refuses. -/
theorem State.hostRead_refused {s : State} {sector count : Nat}
    (ha : ¬ (1 ≤ count ∧ count ≤ s.cfg.maxSectors ∧ sector ≤ 2 ^ 24 - 1)) :
    s.hostRead sector count = .ok (s.complete false .badArgs []) :=
  if_neg fun h => ha ((argsOk_iff _ _ _).mp h)

/-- WRITE with arguments that R136 refuses, or with data of another length (R135). -/
theorem State.hostWrite_refused {s : State} {sector count : Nat} {w : List Byte}
    (ha : ¬ (1 ≤ count ∧ count ≤ s.cfg.maxSectors ∧ sector ≤ 2 ^ 24 - 1 ∧ w.length = 512 * count)) :
    s.hostWrite sector count w = .ok (s.complete false .badArgs []) :=
  if_neg fun ⟨h, hw⟩ => ha (by
    obtain ⟨hlo, hhi, hsec⟩ := (argsOk_iff _ _ _).mp h
    exact ⟨hlo, hhi, hsec, hw⟩)

/-- Settles O47: a connected initiator checks the arguments before it composes anything. -/
theorem badArgumentsAreRefused : Obligations.BadArgumentsAreRefused := by
  intro s cmd sector count w rest hr hc hin hbad
  have hrefused : { s with inputs := rest }.hostCommand cmd =
      .ok ({ s with inputs := rest }.complete false .badArgs []) := by
    rcases hbad with ⟨rfl, ha⟩ | ⟨rfl, ha⟩
    · exact (State.operation_connected (by exact hc) _).trans (State.hostRead_refused ha)
    · exact (State.operation_connected (by exact hc) _).trans (State.hostWrite_refused ha)
  rw [step_hostCommand hr (by simp [hc]) hin, hrefused, State.complete_connected (by exact hc)]
  rfl

/-! ### The answer to a request's transmit -/

/-- The step that takes the transmit answer from the head of a sending initiator's ports (R131). -/
theorem step_txAnswer_initiator {s : State} {ok : Bool} {rest : List Input} (hr : s.cfg.role = .initiator)
    (hc : s.cstate = .txWait) (hin : s.inputs = .txAnswer s.reqNo ok :: rest) :
    step s = .next ({ s with inputs := rest }.sent ok) := by
  rw [step_initiator hr hin ((State.accepts_txAnswer_initiator hr _ _).mpr ⟨rfl, hc⟩)]
  simp only [State.take, State.takeTxAnswer, hr]

/-- Settles O48: CONNECT's answer, sent or failed. -/
theorem connectCompletesOnItsTransmitAnswer : Obligations.ConnectCompletesOnItsTransmitAnswer := by
  intro s ok rest hr hc hk hin
  rw [step_txAnswer_initiator hr hc hin]
  cases ok with
  | true => simp only [State.sent, State.clearTx, hk, if_true]
  | false => simp only [State.sent, State.clearTx, hk, Bool.false_eq_true, if_false]

/-- Settles O49: an operation's answer begins its wait, or completes it as failed. -/
theorem operationGoesOnAfterItsTransmitAnswer : Obligations.OperationGoesOnAfterItsTransmitAnswer := by
  intro s ok rest hr hc hk hin
  rw [step_txAnswer_initiator hr hc hin]
  obtain ⟨hsent, hfail⟩ := State.sent_operation (s := { s with inputs := rest }) hk
  cases ok with
  | true => rw [hsent]; rfl
  | false => rw [hfail, State.complete_connected rfl]; rfl

/-! ### `TIMEOUT` -/

/-- Settles O58, state by state. -/
theorem timeoutEndsTheWait : Obligations.TimeoutEndsTheWait := by
  intro s rest hr hin
  have hstep : step s = .next { s with inputs := rest }.timedOut := step_initiator hr hin (decide_eq_true hr)
  rw [hstep]
  unfold State.timedOut
  cases hc : s.cstate with
  | awaitOp => exact congrArg _ (State.complete_awaitOp rfl _ _ _)
  | awaitQuery => rfl
  | disconnected => rfl
  | connected => rfl
  | txWait => rfl

/-! ### A response that matches the outstanding request -/

/-- A frame that an initiator takes while it waits, and that matches, is decoded (R137). -/
theorem State.receive_match {s : State} {decoded : State → Except Fault State}
    (hc : s.cstate = .awaitQuery ∨ s.cstate = .awaitOp) : s.receive true decoded = decoded s := if_pos hc

/-- Settles O50: the response matches, and its header alone decides. -/
theorem queryResponseBindsTheResponder : Obligations.QueryResponseBindsTheResponder := by
  intro s h q hr hc hk hf ⟨htype, hver, htag⟩
  have hmatch : s.tagMatches true aoeCmdQuery h = true := by simp [State.tagMatches, hk, htype, hver, htag]
  have hexec : exec (.queryResponse h q) s = .next (s.queryAnswered h) := by
    rw [exec, execQueryResponse, State.offer_initiator hr (by simp [hc]) hf, hmatch, State.receive_match (.inl hc)]
    rfl
  simp only [hexec, State.queryAnswered, headerOk, Bool.and_eq_true, Bool.not_eq_true', beq_iff_eq]

/-- A matching ATA response in an initiator that waits for one is decoded by the kind of its operation (R137). -/
theorem exec_ataResponse {s : State} {h : Header} {r : IssueTail} (hr : s.cfg.role = .initiator)
    (hc : s.cstate = .awaitOp) (hk : s.opKind ≠ .query) (hm : s.ResponseMatches h)
    (hf : s.Fits (encode (.ataResponse h r))) :
    exec (.ataResponse h r) s = toOutcome (s.ataAnswered h (encode (.ataResponse h r))) := by
  have hmatch : s.tagMatches true aoeCmdIssue h = true := by
    obtain ⟨htype, hver, htag⟩ := hm
    simp [State.tagMatches, hk, htype, hver, htag]
  rw [exec, execAtaResponse, State.offer_initiator hr (by simp [hc]) hf, hmatch, State.receive_match (.inr hc)]

/-- An ATA response reports success: no error in its header, ERR = 0 and DRDY = 1 (R140 to R142). -/
abbrev ReportsSuccess (h : Header) (status : Byte) : Prop :=
  h.flagError = false ∧ h.error = 0x00#8 ∧ status.getLsbD 0 = false ∧ status.getLsbD 6 = true

/-- The success test over the fields of a response that holds its whole sub-header. -/
theorem responseOk_eq (h : Header) (status : Byte) (sub : IssueSub) (data : List Byte) (n : Nat) :
    responseOk (encode (.ataResponse h (.full status sub data))) (36 + n) h =
      .ok (decide (n ≤ data.length ∧ ReportsSuccess h status)) := by
  rw [responseOk_full]
  congr 1
  rw [Bool.eq_iff_iff]
  simp [headerOk, statusErrorOf, deviceReadyOf, and_assoc]

/-- Byte `k` of the data of an Issue response stands at `36 + k` of its frame (R58). -/
theorem readerOf_data (h : Header) (status : Byte) (sub : IssueSub) (data : List Byte) (k : Nat) :
    readerOf (encode (.ataResponse h (.full status sub data))) (36 + k) = data.getD k 0#8 := by
  have hdrop : (encode (.ataResponse h (.full status sub data))).drop 36 = data := drop_encodeIssueSub ..
  conv => rhs; rw [← hdrop]
  simp only [readerOf, List.getD_eq_getElem?_getD, List.getElem?_drop]

/-- The capacity of an Identify response (R57, R93). -/
theorem getIdCapacity_full {h : Header} {status : Byte} {sub : IssueSub} {data : List Byte} (hd : 512 ≤ data.length) :
    (Buffer.rx (encode (.ataResponse h (.full status sub data)))).getIdCapacity =
      .ok (le64 (data.getD 200 0#8) (data.getD 201 0#8) (data.getD 202 0#8) (data.getD 203 0#8)
        (data.getD 204 0#8) (data.getD 205 0#8) (data.getD 206 0#8) (data.getD 207 0#8)) := by
  have hlen : (encode (.ataResponse h (.full status sub data))).length = 36 + data.length :=
    length_encodeIssue true aoeCmdIssue h status sub data
  have hbound : identCapOff + 8 ≤ (Buffer.rx (encode (.ataResponse h (.full status sub data)))).size := by
    rw [Buffer.size, hlen, identCapOff]
    omega
  rw [Buffer.getIdCapacity, Buffer.get_ok hbound]
  simp only [← readerOf_data h status sub data]
  rfl

/-- The Identify response decoded (R140). -/
theorem State.identifyAnswered_full (s : State) (h : Header) (status : Byte) (sub : IssueSub) (data : List Byte) :
    s.identifyAnswered h (encode (.ataResponse h (.full status sub data))) = .ok
      (if 512 ≤ data.length ∧ ReportsSuccess h status then
        State.complete true .ok [] { s with
          cSectors := le64 (data.getD 200 0#8) (data.getD 201 0#8) (data.getD 202 0#8) (data.getD 203 0#8)
            (data.getD 204 0#8) (data.getD 205 0#8) (data.getD 206 0#8) (data.getD 207 0#8) }
      else s.complete false .rejected []) := by
  simp only [State.identifyAnswered, issueHdrBytes, sectorBytes, responseOk_eq, bind, Except.bind, decide_eq_true_eq]
  split
  · next hgood => rw [getIdCapacity_full hgood.1]; rfl
  · rfl

/-- The Read response decoded (R141). -/
theorem State.readResponse_eq (s : State) (h : Header) (status : Byte) (sub : IssueSub) (data : List Byte) :
    s.readResponse h (encode (.ataResponse h (.full status sub data))) = .ok
      (if 512 * s.opCount.toNat ≤ data.length ∧ ReportsSuccess h status then
        s.complete true .ok (data.take (512 * s.opCount.toNat))
      else s.complete false .rejected []) := by
  have hdrop : (encode (.ataResponse h (.full status sub data))).drop 36 = data := drop_encodeIssueSub ..
  simp only [State.readResponse, issueHdrBytes, sectorBytes, responseOk_eq, bind, Except.bind, decide_eq_true_eq, hdrop]
  split <;> rfl

/-- The Write response decoded (R142). -/
theorem State.writeResponse_eq (s : State) (h : Header) (status : Byte) (sub : IssueSub) (data : List Byte) :
    s.writeResponse h (encode (.ataResponse h (.full status sub data))) = .ok
      (if ReportsSuccess h status then s.complete true .ok [] else s.complete false .rejected []) := by
  have hok := responseOk_eq h status sub data 0
  simp only [State.writeResponse, issueHdrBytes, hok, Nat.zero_le, true_and, bind, Except.bind, decide_eq_true_eq]
  split <;> rfl

/-- Settles O51: the capacity is loaded exactly when the success test holds for one sector. -/
theorem identifyResponseBindsTheCapacity : Obligations.IdentifyResponseBindsTheCapacity := by
  intro s h status sub data hr hc hk hm hf
  rw [exec_ataResponse hr hc (by simp [hk]) hm hf, State.ataAnswered, hk]
  simp only [State.identifyAnswered_full, toOutcome_ok]
  split
  · rw [State.complete_awaitOp (by exact hc)]; rfl
  · rw [State.complete_awaitOp hc]; rfl

/-- Settles O52: the data is delivered exactly when the success test holds for `OP_COUNT` sectors. -/
theorem readResponseDeliversTheData : Obligations.ReadResponseDeliversTheData := by
  intro s h status sub data hr hc hk hm hf
  rw [exec_ataResponse hr hc (by simp [hk]) hm hf, State.ataAnswered, hk]
  simp only [State.readResponse_eq, State.complete_awaitOp hc, toOutcome_ok, Bool.false_eq_true, if_true, if_false]

/-- Settles O53: a Write's response carries no data, so its status alone decides. -/
theorem writeResponseCompletesTheWrite : Obligations.WriteResponseCompletesTheWrite := by
  intro s h status sub data hr hc hk hm hf
  rw [exec_ataResponse hr hc (by simp [hk]) hm hf, State.ataAnswered, hk]
  simp only [State.writeResponse_eq, State.complete_awaitOp hc, toOutcome_ok, Bool.false_eq_true, if_true, if_false]

/-- A frame shorter than its operation asks for is no success, and none of its bytes is read (R140 to R142). -/
theorem responseOk_short {rx : List Byte} {len : Nat} (hl : rx.length < len) (h : Header) :
    responseOk rx len h = .ok false := if_neg fun ⟨hle, _⟩ => absurd hl (Nat.not_lt.mpr hle)

/-- A matching response that does not hold the Issue sub-header is rejected by every operation (R140 to R143). -/
theorem State.ataAnswered_short {s : State} {rx : List Byte} (h : Header) (hl : rx.length < 36)
    (hk : s.opKind = .identify ∨ s.opKind = .read ∨ s.opKind = .write) :
    s.ataAnswered h rx = .ok (s.complete false .rejected []) := by
  have hfail (n : Nat) : responseOk rx (36 + n) h = .ok false := responseOk_short (by omega) h
  have hfail0 : responseOk rx 36 h = .ok false := hfail 0
  unfold State.ataAnswered
  rcases hk with hk | hk | hk <;> rw [hk]
  · simp only [State.identifyAnswered, issueHdrBytes, hfail]; rfl
  · simp only [State.readResponse, issueHdrBytes, hfail]; rfl
  · simp only [State.writeResponse, issueHdrBytes, hfail0]; rfl

/-- Settles O54: fewer than 12 bytes after the AoE header are no sub-header. -/
theorem truncatedAtaResponseIsRejected : Obligations.TruncatedAtaResponseIsRejected := by
  intro s h bytes hr hc hk hm hb hf
  have hquery : s.opKind ≠ .query := by rcases hk with hk | hk | hk <;> simp [hk]
  have hlen : (encode (.ataResponse h (.short bytes))).length < 36 := by
    simp only [encode, encodeIssueTail, List.length_append, length_encodeHeader]
    omega
  rw [exec_ataResponse hr hc hquery hm hf, State.ataAnswered_short h hlen hk, State.complete_awaitOp hc]
  rfl

/-! ### Any frame in an initiator that accepts it -/

/-- A big-endian 32-bit field from its bytes (R10, R39). -/
theorem be32_eq_iff (a b c d : Byte) (v : BitVec 32) :
    be32 a b c d = v ↔ a.toNat * 2 ^ 24 + b.toNat * 2 ^ 16 + c.toNat * 2 ^ 8 + d.toNat = v.toNat := by
  have hlow (n : Nat) (x : Byte) : n <<< 8 ||| x.toNat = n * 2 ^ 8 + x.toNat := by
    rw [← Nat.shiftLeft_add_eq_or_of_lt x.isLt, Nat.shiftLeft_eq]
  simp only [← BitVec.toNat_inj, be32, BitVec.toNat_append, hlow]
  omega

/-- The raw tag matcher of a frame that holds the AoE header is that of R138 over the fields of the header. -/
theorem matchesRaw_eq (s : State) {rx : List Byte} (h : 24 ≤ rx.length) :
    matchesRaw s.opKind s.tag rx =
      s.tagMatches (aoeFlagResponseOf (readerOf rx)) (aoeCommandOf (readerOf rx)) (headerOf (readerOf rx)) := by
  rw [Bool.eq_iff_iff]
  simp only [matchesRaw, State.tagMatches, headerOf, ethTypeOf, aoeVersionOf, aoeTagOf, Bool.and_eq_true, beq_iff_eq,
    decide_eq_true_eq, be16_eq_ethertype, verOf_eq_one_iff, be32_eq_iff, h, true_and, and_assoc, readerOf,
    aoeFlagResponseOf, flagResponseOf, aoeCommandOf]
  split <;> simp

/-- A matching frame decoded, by what the initiator waits for (R137). -/
def State.decodeResponse (h : Header) (rx : List Byte) (s : State) : Except Fault State :=
  if s.opKind = .query then .ok (s.queryAnswered h) else s.ataAnswered h rx

/-- Only a response of a command that some request awaits matches (R138). -/
theorem State.tagMatches_response {s : State} {f : Bool} {c : Byte} {h : Header} (hm : s.tagMatches f c h = true) :
    f = true ∧ c = if s.opKind = .query then aoeCmdQuery else aoeCmdIssue := by
  simp only [State.tagMatches, Bool.and_eq_true] at hm
  obtain ⟨⟨⟨-, hf⟩, hc⟩, -⟩ := hm
  refine ⟨hf, ?_⟩
  by_cases hk : s.opKind = .query <;> simpa [hk] using hc

open Laws.KeyBytes in
/-- Every form starts with a header of its row, and an initiator tests that row and header by the tag matcher; a form
that matches is decoded by the outstanding request (R137, R138). -/
theorem exec_receives (i : Instr) : ∃ h t f decoded, encode i = encodeHeader (response i) (command i) h ++ t ∧
    (∀ s, exec i s = s.offer (encode i) f fun s => s.receive (s.tagMatches (response i) (command i) h) decoded) ∧
    ∀ s : State, s.tagMatches (response i) (command i) h = true → decoded s = s.decodeResponse h (encode i) := by
  cases i with
  | queryResponse h q =>
    refine ⟨_, _, _, _, rfl, fun _ => rfl, fun s hm => (if_pos ?_).symm⟩
    obtain ⟨-, hc⟩ := State.tagMatches_response hm
    by_contra hk
    simp [hk, command] at hc
  | ataResponse h r =>
    refine ⟨_, _, _, _, rfl, fun _ => rfl, fun s hm => (if_neg fun hk => ?_).symm⟩
    obtain ⟨-, hc⟩ := State.tagMatches_response hm
    simp [hk, command] at hc
  | queryConfig | ataIdentify | ataReadRetry | ataWriteRetry | ataUnsupported | aoeUnsupported =>
    exact ⟨_, _, _, _, rfl, fun _ => rfl, fun s hm => nomatch (State.tagMatches_response hm).1⟩

/-- A frame without a form matches no request (R138). -/
theorem matchesRaw_of_error {s : State} {rx : List Byte} {e : DecodeError} (h : decode rx = .error e) :
    matchesRaw s.opKind s.tag rx = false := by
  rw [Bool.eq_false_iff]
  intro hm
  have hlen : 24 ≤ rx.length := by
    by_contra hlen
    simp [matchesRaw, hlen] at hm
  rw [matchesRaw_eq s hlen] at hm
  obtain ⟨hf, hc⟩ := State.tagMatches_response hm
  simp only [decode, aoeHeaderBytes, Nat.not_lt.mpr hlen, if_false, hf, if_true, hc] at h
  by_cases hk : s.opKind = .query <;> simp [hk] at h

/-- What an initiator does with any frame that it accepts: the tag matcher over its raw bytes, then the decoder of the
outstanding request or a stray (R127, R137, R138). -/
theorem takeFrame_initiator {s : State} {rx : List Byte} (hr : s.cfg.role = .initiator) (hc : s.cstate ≠ .txWait)
    (hf : s.Fits rx) : s.takeFrame rx =
      toOutcome (s.receive (matchesRaw s.opKind s.tag rx) (State.decodeResponse (headerOf (readerOf rx)) rx)) := by
  unfold State.takeFrame
  cases hdec : decode rx with
  | error e =>
    rw [matchesRaw_of_error hdec]
    exact State.offer_initiator hr hc hf
  | ok i =>
    have hlen := length_of_decode hdec
    obtain ⟨rfl, -⟩ := encodeUndoesDecode rx i hdec
    obtain ⟨h, t, f, decoded, ht, hexec, hdecoded⟩ := exec_receives i
    rw [matchesRaw_eq s hlen]
    dsimp only
    rw [hexec, State.offer_initiator hr hc hf, ht, aoeFlagResponseOf_encodeHeader, aoeCommandOf_encodeHeader,
      headerOf_encodeHeader, ← ht]
    cases hm : s.tagMatches (Laws.KeyBytes.response i) (Laws.KeyBytes.command i) h with
    | false => rfl
    | true => simp only [State.receive, if_true, hdecoded s hm]

/-- The step that takes a frame from the head of an initiator's ports (R24, R137). -/
theorem step_frame_initiator {s : State} {rx : List Byte} {rest : List Input} (hr : s.cfg.role = .initiator)
    (hc : s.cstate ≠ .txWait) (hf : s.Fits rx) (hin : s.inputs = .frame rx :: rest) :
    step s = toOutcome ({ s with inputs := rest }.receive (matchesRaw s.opKind s.tag rx)
      (State.decodeResponse (headerOf (readerOf rx)) rx)) :=
  (step_initiator hr hin ((State.accepts_frame_initiator hr rx).mpr ⟨hf, hc⟩)).trans (takeFrame_initiator hr hc hf)

/-- Settles O57: no response is awaited, so the frame is not even tested. -/
theorem frameOutsideAWaitIsDiscarded : Obligations.FrameOutsideAWaitIsDiscarded := by
  intro s rx rest hr hc hf hin
  have hwait : s.cstate ≠ .txWait ∧ ¬ (s.cstate = .awaitQuery ∨ s.cstate = .awaitOp) := by
    rcases hc with hc | hc <;> simp [hc]
  rw [step_frame_initiator hr hwait.1 hf hin]
  exact congrArg toOutcome (if_neg hwait.2)

/-! ### Strays -/

/-- A frame that does not match changes nothing while a query waits (R144). -/
theorem State.stray_awaitQuery {s : State} (hc : s.cstate = .awaitQuery) : s.stray = s := if_neg (by simp [hc])

/-- A frame that does not match while an operation waits: one stray more, or the stray after the limit (R144). -/
theorem State.stray_awaitOp {s : State} (hc : s.cstate = .awaitOp) :
    s.stray = if ∃ limit, s.cfg.clientMaxStray = some limit ∧ limit ≤ s.strayCnt then s.complete false .strayLimit []
      else { s with strayCnt := s.strayCnt + 1 } := by
  unfold State.stray
  rw [if_pos hc]
  cases s.cfg.clientMaxStray with
  | none => simp
  | some limit => simp

/-- Settles O55: a frame that does not match is a stray, whatever its form. -/
theorem unmatchedFrameIsAStray : Obligations.UnmatchedFrameIsAStray := by
  intro s rx rest hr hc hf hin hm
  have hwait : s.cstate ≠ .txWait := by rcases hc with hc | hc <;> simp [hc]
  have hstray : step s = .next { s with inputs := rest }.stray := by
    rw [step_frame_initiator hr hwait hf hin, hm]
    exact congrArg toOutcome (if_pos hc)
  rw [hstray]
  rcases hc with hc | hc
  · rw [State.stray_awaitQuery (by exact hc), if_pos hc]
  · have hquery : s.cstate ≠ .awaitQuery := by simp [hc]
    rw [State.stray_awaitOp (by exact hc), State.complete_awaitOp (by exact hc), if_neg hquery]
    rfl

/-! ### Frames that match -/

/-- What the decoder of an outstanding operation answers: it completes as `C_OK`, perhaps loading `C_SECTORS`, or as
`C_REJECTED` (R140 to R143). -/
theorem ataAnswered_completes {s : State} (hk : s.opKind = .identify ∨ s.opKind = .read ∨ s.opKind = .write)
    (h : Header) (rx : List Byte) :
    (∃ cap d, s.ataAnswered h rx = .ok (State.complete true .ok d { s with cSectors := cap })) ∨
    s.ataAnswered h rx = .ok (s.complete false .rejected []) := by
  have test (n : Nat) := responseOk_completes (rx := rx) (Nat.le_add_right 36 n) h
  unfold State.ataAnswered
  rcases hk with hk | hk | hk <;> rw [hk]
  · obtain ⟨b, hb, hlen⟩ := test 512
    simp only [State.identifyAnswered, issueHdrBytes, sectorBytes, hb, bind, Except.bind]
    cases b with
    | false => exact .inr rfl
    | true =>
      have hcap : identCapOff + 8 ≤ (Buffer.rx rx).size := Nat.le_trans (by decide) (hlen rfl)
      simp only [Buffer.getIdCapacity, Buffer.get_ok hcap]
      exact .inl ⟨_, _, rfl⟩
  · obtain ⟨b, hb, -⟩ := test (512 * s.opCount.toNat)
    simp only [State.readResponse, issueHdrBytes, sectorBytes, hb, bind, Except.bind]
    cases b with
    | false => exact .inr rfl
    | true => exact .inl ⟨s.cSectors, _, rfl⟩
  · obtain ⟨b, hb, -⟩ := test 0
    simp only [State.writeResponse, issueHdrBytes, hb, bind, Except.bind]
    cases b with
    | false => exact .inr rfl
    | true => exact .inl ⟨s.cSectors, _, rfl⟩

/-- Settles O56: the invariant says which request is outstanding, and its decoder ends the wait. -/
theorem matchedFrameEndsTheWait : Obligations.MatchedFrameEndsTheWait := by
  intro s rx rest ⟨_, _, _, _, hok⟩ hr hc hf hin hm
  obtain ⟨-, -, hquery, hop, -⟩ := hok hr
  have hwait : s.cstate ≠ .txWait := by rcases hc with hc | hc <;> simp [hc]
  have hstep : step s = toOutcome
      ({ s with inputs := rest }.decodeResponse (headerOf (readerOf rx)) rx) := by
    rw [step_frame_initiator hr hwait hf hin, hm, State.receive_match (by exact hc)]
  rw [hstep]
  rcases hc with hc | hc
  · have hk : { s with inputs := rest }.opKind = .query := hquery hc
    rw [State.decodeResponse, if_pos hk, State.queryAnswered]
    split
    · exact ⟨_, rfl, rfl, rfl, rfl, rfl, by simp [hc], fun _ => ⟨rfl, .inl ⟨rfl, rfl⟩⟩⟩
    · exact ⟨_, rfl, rfl, rfl, rfl, rfl, by simp [hc], fun _ => ⟨rfl, .inr ⟨rfl, rfl⟩⟩⟩
  · have hk := hop hc
    have hq : { s with inputs := rest }.opKind ≠ .query := by rcases hk with hk | hk | hk <;> simp [hk]
    rw [State.decodeResponse, if_neg hq]
    rcases ataAnswered_completes (s := { s with inputs := rest }) hk (headerOf (readerOf rx)) rx with ⟨cap, d, h⟩ | h
    · rw [h, State.complete_awaitOp (by exact hc)]
      exact ⟨_, rfl, rfl, rfl, rfl, rfl, fun _ => ⟨rfl, .inl rfl, by simp⟩, by simp [hc]⟩
    · rw [h, State.complete_awaitOp (by exact hc)]
      exact ⟨_, rfl, rfl, rfl, rfl, rfl, fun _ => ⟨rfl, .inr rfl, by simp⟩, by simp [hc]⟩

end Sys2Proof.Machine

/-! ## What a step reports

`Reports s t` says everything a rule puts out, of either role and in any state: nothing, a request, or a `DONE` that
agrees with the result registers it leaves. Each shared operation is shown to be such a rule, then the forms of the
opcode table and the other inputs. -/

namespace Sys2Proof.Machine

open Sys2Proof

/-- What a rule puts out from `s` to `t` (R25, R27, R146). -/
inductive Reports (s t : State) : Prop where
  /-- No event. -/
  | nothing (ho : t.outputs = s.outputs)
  /-- A request to a collaborator. -/
  | request (e : Output) (he : e.isRequest = true) (ho : t.outputs = s.outputs ++ [e])
  /-- The end of a command: the result registers say what the event says, and no operation is outstanding. -/
  | done (d : List Byte) (ho : t.outputs = s.outputs ++ [.done t.cResult t.cOutcome d]) (hop : t.cstate ≠ .awaitOp)
      (htx : t.cstate ≠ .txWait)

/-- A rule of either role that puts out what `Reports` allows, wherever it completes. -/
abbrev Reporting (f : State → Except Fault State) : Prop := ∀ ⦃s t : State⦄, f s = .ok t → Reports s t

section
variable {s t u : State}

theorem Reports.after (h : Reports u t) (ho : u.outputs = s.outputs) : Reports s t := by
  cases h with
  | nothing hn => exact .nothing (hn.trans ho)
  | request e he hn => exact .request e he (ho ▸ hn)
  | done d hn hop htx => exact .done d (ho ▸ hn) hop htx

/-- A quiet first part of a computation, then a part that reports what it may. -/
theorem Reports.of_bind {x : Except Fault State} {f : State → Except Fault State} (h : x >>= f = .ok t)
    (hx : ∀ {u}, x = .ok u → Quiet s u) (hf : ∀ {u}, f u = .ok t → Reports u t) : Reports s t := by
  obtain ⟨u, hu, h⟩ := bind_completes h
  exact (hf h).after (hx hu).outputs

end

/-! ### The responder's operations -/

theorem reports_respond (s : State) (len : Nat) : Reports s (s.respond len) := .request _ rfl rfl

theorem reports_storageFail (code : RCode) (kind : PrintKind) : Reporting (State.storageFail code kind) := by
  intro s t h
  rw [State.storageFail_eq] at h
  cases h
  exact .nothing rfl

theorem reports_readNext : Reporting State.readNext := by
  intro s t h
  by_cases hd : s.tIdx.toNat = s.tCount.toNat
  · rw [State.readNext_done hd] at h
    cases h
    exact .request _ rfl rfl
  · rw [State.readNext_more hd] at h
    cases h
    exact .request _ rfl rfl

theorem reports_readAnswered (ok : Bool) (d : Sector) : Reporting (State.readAnswered ok d) := fun _ _ h =>
  .of_bind h .of_txWrite fun h => by
    cases ok with
    | true => exact (reports_readNext h).after rfl
    | false => exact reports_storageFail _ _ h

theorem reports_writeNext : Reporting State.writeNext := by
  intro s t h
  unfold State.writeNext at h
  split at h
  · exact .of_bind h .of_txWrite fun h => by
      cases h
      exact reports_respond _ _
  · obtain ⟨d, -, h⟩ := bind_completes h
    cases h
    exact .request _ rfl rfl

theorem reports_writeAnswered (ok : Bool) : Reporting (State.writeAnswered ok) := by
  intro s t h
  cases ok with
  | true => exact (reports_writeNext h).after rfl
  | false => exact reports_storageFail _ _ h

/-! ### The responder's rules for a frame -/

theorem reports_queryConfig : Reporting State.queryConfig := by
  intro s t h
  rw [State.queryConfig_eq] at h
  cases h
  exact .request _ rfl rfl

theorem reports_identify : Reporting State.identify := fun _ _ h =>
  .of_bind h .of_txWrite fun h => .of_bind h .of_txWrite fun h => by
    cases h
    exact reports_respond _ _

theorem reports_readStart (sub : IssueSub) : Reporting (State.readStart sub) := by
  intro s t h
  simp only [State.readStart] at h
  split at h
  · cases h
    exact .nothing rfl
  · exact (reports_readNext h).after rfl

theorem reports_writeStart (sub : IssueSub) : Reporting (State.writeStart sub) := by
  intro s t h
  simp only [State.writeStart] at h
  split at h
  · cases h
    exact .nothing rfl
  · split at h
    · cases h
      exact .nothing rfl
    · exact (reports_writeNext h).after rfl

/-- A rule that puts out nothing: a frame discarded, or dropped (R153). -/
theorem reports_nothing {g : State → State} (hg : ∀ s, (g s).outputs = s.outputs) : Reporting (fun s => .ok (g s)) := by
  intro s t h
  cases h
  exact .nothing (hg s)

theorem reports_ataUnsupported : Reporting State.ataUnsupported :=
  reports_nothing (g := fun s => (s.print .unsupportedAtaCmd).drop .dropAtaCmd) fun _ => rfl

theorem reports_aoeUnsupported : Reporting State.aoeUnsupported :=
  reports_nothing (g := fun s => (s.print .unsupportedAoeCmd).drop .dropAoeCmd) fun _ => rfl

theorem reports_issue {form : State → Except Fault State} (ata : Byte) (hf : Reporting form) :
    Reporting (State.issue ata form) := fun s _ h => (hf (s := { s with tAta := ata }) h).after rfl

/-- The accepting step: the validation's drop, or the form's own rule on the seeded buffer (R98). -/
theorem reports_accept {form : State → Except Fault State} (f : Bool) (cmd : Byte) (h : Header) (rx : List Byte)
    (hf : Reporting form) : Reporting (State.accept f cmd h rx form) := by
  intro s t ht
  cases hv : s.validate f h with
  | some code =>
    rw [State.accept_drop hv] at ht
    cases ht
    exact .nothing rfl
  | none =>
    rw [State.accept_ok hv] at ht
    exact (hf ht).after rfl

/-- A frame without a form (R98, R103). -/
theorem reports_acceptUndecoded (e : DecodeError) (rx : List Byte) : Reporting (State.acceptUndecoded e rx) := by
  cases e with
  | shortFrame => exact reports_nothing fun _ => rfl
  | shortIssue h => exact reports_accept _ _ _ _ (reports_nothing fun _ => rfl)
  | noRow h c => exact reports_accept _ _ _ _ (reports_nothing fun _ => rfl)

/-- A frame of any form or none is offered to a responder's rule that reports what it may. -/
theorem takeFrame_reports (rx : List Byte) :
    ∃ rx' f g, Reporting f ∧ ∀ s : State, s.takeFrame rx = s.offer rx' f g := by
  unfold State.takeFrame
  cases decode rx with
  | error e => exact ⟨_, _, _, reports_acceptUndecoded e rx, fun _ => rfl⟩
  | ok i =>
    cases i with
    | queryConfig h q => exact ⟨_, _, _, reports_accept _ _ _ _ reports_queryConfig, fun _ => rfl⟩
    | ataIdentify h sub data =>
      exact ⟨_, _, _, reports_accept _ _ _ _ (reports_issue _ reports_identify), fun _ => rfl⟩
    | ataReadRetry h sub data =>
      exact ⟨_, _, _, reports_accept _ _ _ _ (reports_issue _ (reports_readStart sub)), fun _ => rfl⟩
    | ataWriteRetry h sub data =>
      exact ⟨_, _, _, reports_accept _ _ _ _ (reports_issue _ (reports_writeStart sub)), fun _ => rfl⟩
    | ataUnsupported h ata sub data =>
      exact ⟨_, _, _, reports_accept _ _ _ _ (reports_issue ata reports_ataUnsupported), fun _ => rfl⟩
    | aoeUnsupported h command payload =>
      exact ⟨_, _, _, reports_accept _ _ _ _ reports_aoeUnsupported, fun _ => rfl⟩
    | queryResponse h q => exact ⟨_, _, _, reports_accept _ _ _ _ (reports_nothing fun _ => rfl), fun _ => rfl⟩
    | ataResponse h r => exact ⟨_, _, _, reports_accept _ _ _ _ (reports_nothing fun _ => rfl), fun _ => rfl⟩

/-! ### The initiator's operations -/

/-- `complete` leaves neither of the states in which an operation is outstanding (R146). -/
theorem reports_complete (s : State) (r : Bool) (c : CCode) (d : List Byte) : Reports s (s.complete r c d) := by
  have hend : (s.complete r c d).cstate ≠ .awaitOp ∧ (s.complete r c d).cstate ≠ .txWait := by
    rw [State.complete_cstate]
    by_cases hw : s.cstate = .awaitOp ∨ s.cstate = .txWait
    · rw [if_pos hw]
      exact ⟨nofun, nofun⟩
    · rw [if_neg hw]
      exact not_or.mp hw
  exact .done _ rfl hend.1 hend.2

theorem reports_stray (s : State) : Reports s s.stray := by
  rcases stray_cases s with h | h | ⟨-, h⟩ <;> rw [h]
  · exact .nothing rfl
  · exact .nothing rfl
  · exact reports_complete _ _ _ _

theorem reports_decodeResponse (h : Header) (rx : List Byte) : Reporting (State.decodeResponse h rx) := by
  intro s t ht
  unfold State.decodeResponse at ht
  split at ht
  · cases ht
    unfold State.queryAnswered
    split <;> exact .nothing rfl
  · rcases ataAnswered_cases h rx s with hk | ⟨-, cap, r, c, d, hk⟩ <;> rw [hk] at ht <;> cases ht
    · exact .nothing rfl
    · exact (reports_complete _ _ _ _).after rfl

/-- A frame that an initiator takes is discarded, decoded or a stray (R127, R137). -/
theorem reports_receive (isMatch : Bool) {decoded : State → Except Fault State} (hd : Reporting decoded) :
    Reporting (State.receive isMatch decoded) := by
  intro s t h
  unfold State.receive at h
  split at h
  · split at h
    · exact hd h
    · cases h
      exact reports_stray s
  · cases h
    exact .nothing rfl

theorem reports_timedOut (s : State) : Reports s s.timedOut := by
  unfold State.timedOut
  split
  · exact reports_complete _ _ _ _
  · exact .nothing rfl
  · exact .nothing rfl

/-- The transmit answer reports the end of a CONNECT or of a failed operation, and nothing else (R131 to R135). -/
theorem reports_sent (s : State) (ok : Bool) : Reports s (s.sent ok) := by
  have operation (ho : s.opKind = .identify ∨ s.opKind = .read ∨ s.opKind = .write) : Reports s (s.sent ok) := by
    obtain ⟨ht, hf⟩ := State.sent_operation ho
    cases ok with
    | true => rw [ht]; exact .nothing rfl
    | false => rw [hf]; exact (reports_complete _ _ _ _).after rfl
  cases hk : s.opKind with
  | none =>
    simp only [State.sent, State.clearTx_opKind, hk]
    exact .nothing rfl
  | identify => exact operation (.inl hk)
  | read => exact operation (.inr (.inl hk))
  | write => exact operation (.inr (.inr hk))
  | query =>
    cases ok with
    | true =>
      simp only [State.sent, State.clearTx_opKind, hk]
      exact .done [] rfl nofun nofun
    | false =>
      simp only [State.sent, State.clearTx_opKind, hk]
      by_cases hp : s.cPrev = .connected
      · exact .done [] rfl (by simp [hp]) (by simp [hp])
      · exact .done [] rfl (by simp [hp]) (by simp [hp])

/-! ### The host's commands -/

/-- The end of a host command: the request's latches are set and it goes out (R131). -/
theorem reports_sending {s t u : State} {len : Nat} (h : pure (u.send len) = (.ok t : Except Fault State))
    (ho : u.outputs = s.outputs) : Reports s t := by
  cases h
  exact (Reports.request (s := u) _ rfl rfl).after ho

theorem reports_connect : Reporting State.connect := fun _ _ h =>
  .of_bind h quiet_composeHeader fun h => reports_sending h rfl

theorem reports_hostIdentify : Reporting State.hostIdentify := fun _ _ h =>
  .of_bind h quiet_composeHeader fun h => .of_bind h .of_txWrite fun h => .of_bind h .of_txWrite fun h =>
    reports_sending h rfl

theorem reports_hostRead (sector count : Nat) : Reporting (State.hostRead sector count) := by
  intro s t h
  unfold State.hostRead at h
  split at h
  · exact .of_bind h quiet_composeHeader fun h => .of_bind h .of_txWrite fun h => .of_bind h .of_txWrite fun h =>
      .of_bind h .of_txWrite fun h => reports_sending h rfl
  · cases h
    exact reports_complete _ _ _ _

theorem reports_hostWrite (sector count : Nat) (w : List Byte) : Reporting (State.hostWrite sector count w) := by
  intro s t h
  unfold State.hostWrite at h
  split at h
  · exact .of_bind h quiet_composeHeader fun h => .of_bind h .of_txWrite fun h => .of_bind h .of_txWrite fun h =>
      .of_bind h .of_txWrite fun h => .of_bind h .of_txWrite fun h => .of_bind h quiet_setWindows fun h =>
        reports_sending h rfl
  · cases h
    exact reports_complete _ _ _ _

/-- A host command that is accepted finds no operation outstanding, so a refusal reports none either (R127, R128). -/
theorem reports_hostCommand {s t : State} {cmd : HostCmd} (hc : s.cstate ≠ .txWait ∧ s.cstate ≠ .awaitOp)
    (h : s.hostCommand cmd = .ok t) : Reports s t := by
  have operation {op : State → Except Fault State} (hop : Reporting op) (h : s.operation op = .ok t) : Reports s t := by
    unfold State.operation at h
    split at h
    · exact hop h
    · cases h
      exact .done [] rfl hc.2 hc.1
  cases cmd with
  | connect => exact reports_connect h
  | identify => exact operation reports_hostIdentify h
  | read sector count => exact operation (reports_hostRead sector count) h
  | write sector count w => exact operation (reports_hostWrite sector count w) h

/-! ### One accepted input, and a step -/

/-- `RESET` puts out the announce or nothing (R122, R168). -/
theorem reports_doReset : Reporting State.doReset := by
  intro s t h
  rw [State.doReset_eq] at h
  cases h
  cases ha : announces s.cfg with
  | false => exact .nothing (by simp [resetOutputs, ha])
  | true => exact .request _ rfl (congrArg (s.outputs ++ ·) (if_pos ha))

theorem reports_takeFrame {s t : State} {rx : List Byte} (ha : s.accepts (.frame rx) = true)
    (h : s.takeFrame rx = .next t) : Reports s t := by
  cases hr : s.cfg.role with
  | initiator =>
    obtain ⟨hf, hc⟩ := (State.accepts_frame_initiator hr rx).mp ha
    rw [takeFrame_initiator hr hc hf] at h
    exact reports_receive _ (reports_decodeResponse _ _) ((toOutcome_next_iff _ _).mp h)
  | responder =>
    obtain ⟨rx', f, g, hf, he⟩ := takeFrame_reports rx
    rw [he] at h
    rcases s.offer_cases rx' f g with ho | ⟨-, ho⟩ | ⟨hr', -, -⟩
    · rw [ho] at h
      cases h
      exact .nothing rfl
    · rw [ho] at h
      exact hf ((toOutcome_next_iff _ _).mp h)
    · simp [hr] at hr'

theorem reports_take {s t : State} {i : Input} (ha : s.accepts i = true) (h : s.take i = .next t) : Reports s t := by
  cases i with
  | reset => exact reports_doReset ((toOutcome_next_iff _ _).mp h)
  | frame rx => exact reports_takeFrame ha h
  | host cmd =>
    have hc := (State.accepts_host_initiator (State.role_of_accepts_host ha) cmd).mp ha
    exact reports_hostCommand hc ((toOutcome_next_iff _ _).mp h)
  | timeout =>
    cases h
    exact reports_timedOut s
  | txAnswer n ok =>
    cases h
    unfold State.takeTxAnswer
    cases s.cfg.role with
    | initiator => exact reports_sent s ok
    | responder =>
      dsimp only
      split
      · exact .nothing rfl
      · cases ok <;> exact .nothing rfl
  | readAnswer n ok d => exact reports_readAnswered ok d ((toOutcome_next_iff _ _).mp h)
  | writeAnswer n ok => exact reports_writeAnswered ok ((toOutcome_next_iff _ _).mp h)

theorem reports_step {s t : State} (h : step s = .next t) : Reports s t := by
  rcases step_cases s with ⟨-, -, he⟩ | ⟨-, he⟩ | ⟨i, rest, ha, -, -, he⟩ <;> rw [he] at h
  · cases h
    exact .nothing rfl
  · cases h
    exact .nothing rfl
  · exact (reports_take (s := { s with inputs := rest }) ha h).after rfl

/-- Settles O18: of the three things a step can put out, only the last holds a `DONE`. -/
theorem doneReportsTheResultRegisters : Obligations.DoneReportsTheResultRegisters := by
  intro s t h es r o d hes hmem
  have new {es' : List Output} (ho : t.outputs = s.outputs ++ es') : es = es' :=
    List.append_cancel_left (hes.symm.trans ho)
  cases reports_step h with
  | nothing ho =>
    obtain rfl := new (es' := []) (by simp [ho])
    cases hmem
  | request e he ho =>
    obtain rfl := new ho
    obtain rfl := List.mem_singleton.mp hmem
    cases he
  | done d' ho hop htx =>
    obtain rfl := new ho
    have heq := List.mem_singleton.mp hmem
    cases heq
    exact ⟨rfl, rfl, rfl, hop, htx⟩

end Sys2Proof.Machine

/-! ## No abandoned answer is ever taken

A block awaits an answer only to its last request, and a wait begins only with a new request (`wait_begins_with_request`).
`RESET` ends every wait and keeps the numbering (R156, R167), so every wait after it is for a request issued after it. A
block that awaits nothing takes no answer: only the frames, the host's commands, `TIMEOUT` and `RESET` can begin a wait. -/

namespace Sys2Proof.Machine

open Sys2Proof

/-! ### What a wait is -/

/-- In the role `ρ` the block awaits a collaborator's answer (R17, R18). -/
def State.AwaitsIn (ρ : Role) (s : State) : Prop :=
  match ρ with
  | .responder => s.rstate ≠ .idle ∧ s.rstate ≠ .done
  | .initiator => s.cstate = .txWait

/-- The block awaits a collaborator's answer. -/
abbrev State.Waits (s : State) : Prop := s.AwaitsIn s.cfg.role

/-- A transmit answer that is accepted is awaited, and answers the last request. -/
theorem State.waits_of_accepts_txAnswer {s : State} {n : Nat} {ok : Bool} (h : s.accepts (.txAnswer n ok) = true) :
    n = s.reqNo ∧ s.Waits := by
  unfold State.Waits
  cases hr : s.cfg.role with
  | responder =>
    obtain ⟨hn, hw⟩ := (State.accepts_txAnswer_responder hr n ok).mp h
    exact ⟨hn, by rcases hw with hw | hw <;> simp [State.AwaitsIn, hw]⟩
  | initiator => exact (State.accepts_txAnswer_initiator hr n ok).mp h

/-- A storage read's answer that is accepted is awaited, and answers the last request. -/
theorem State.waits_of_accepts_readAnswer {s : State} {n : Nat} {ok : Bool} {d : Sector}
    (h : s.accepts (.readAnswer n ok d) = true) : n = s.reqNo ∧ s.Waits := by
  obtain ⟨hn, hr, hw⟩ := (State.accepts_readAnswer n ok d).mp h
  exact ⟨hn, by simp [State.Waits, State.AwaitsIn, hr, hw]⟩

/-- A storage write's answer that is accepted is awaited, and answers the last request. -/
theorem State.waits_of_accepts_writeAnswer {s : State} {n : Nat} {ok : Bool}
    (h : s.accepts (.writeAnswer n ok) = true) : n = s.reqNo ∧ s.Waits := by
  obtain ⟨hn, hr, hw⟩ := (State.accepts_writeAnswer n ok).mp h
  exact ⟨hn, by simp [State.Waits, State.AwaitsIn, hr, hw]⟩

/-! ### What a rule leaves the block waiting for -/

/-- A rule of the role `ρ` from `s` to `t` leaves a wait only with the request that it issued (R27). -/
def Asks (ρ : Role) (s t : State) : Prop := t.AwaitsIn ρ → t.reqNo = s.reqNo + 1

/-- A rule that asks for what it awaits, wherever it completes. -/
abbrev Asking (ρ : Role) (f : State → Except Fault State) : Prop := ∀ ⦃s t : State⦄, f s = .ok t → Asks ρ s t

section
variable {ρ : Role} {s t u : State}

theorem Asks.request (h : t.reqNo = s.reqNo + 1) : Asks ρ s t := fun _ => h

theorem Asks.idle (h : t.rstate = .idle) : Asks .responder s t := fun hw => absurd h hw.1

theorem Asks.done (h : t.rstate = .done) : Asks .responder s t := fun hw => absurd h hw.2

theorem Asks.ends (h : t.cstate ≠ .txWait) : Asks .initiator s t := fun hw => absurd hw h

theorem Asks.after (h : Asks ρ u t) (hq : u.reqNo = s.reqNo) : Asks ρ s t := fun hw => hq ▸ h hw

/-- A quiet first part of a computation, then a part that asks for what it awaits. -/
theorem Asks.of_bind {x : Except Fault State} {f : State → Except Fault State} (h : x >>= f = .ok t)
    (hx : ∀ {u}, x = .ok u → Quiet s u) (hf : ∀ {u}, f u = .ok t → Asks ρ u t) : Asks ρ s t := by
  obtain ⟨u, hu, h⟩ := bind_completes h
  exact (hf h).after (hx hu).reqNo

end

/-! ### The responder's rules for a frame -/

/-- The end of a rule that composed a response: it goes out (R118). -/
theorem asks_responding {s t : State} {len : Nat} (h : pure (s.respond len) = (.ok t : Except Fault State)) :
    Asks .responder s t := by
  cases h
  exact .request rfl

theorem asking_readNext : Asking .responder State.readNext := by
  intro s t h
  unfold State.readNext at h
  split at h
  · exact .of_bind h .of_txWrite asks_responding
  · cases h
    exact .request rfl

theorem asking_writeNext : Asking .responder State.writeNext := by
  intro s t h
  unfold State.writeNext at h
  split at h
  · exact .of_bind h .of_txWrite asks_responding
  · obtain ⟨d, -, h⟩ := bind_completes h
    cases h
    exact .request rfl

theorem asking_queryConfig : Asking .responder State.queryConfig := by
  intro s t h
  rw [State.queryConfig_eq] at h
  cases h
  exact .request rfl

theorem asking_identify : Asking .responder State.identify := fun _ _ h =>
  .of_bind h .of_txWrite fun h => .of_bind h .of_txWrite asks_responding

theorem asking_readStart (sub : IssueSub) : Asking .responder (State.readStart sub) := by
  intro s t h
  simp only [State.readStart] at h
  split at h
  · cases h
    exact .done rfl
  · exact (asking_readNext h).after rfl

theorem asking_writeStart (sub : IssueSub) : Asking .responder (State.writeStart sub) := by
  intro s t h
  simp only [State.writeStart] at h
  split at h
  · cases h
    exact .done rfl
  · split at h
    · cases h
      exact .done rfl
    · exact (asking_writeNext h).after rfl

theorem asking_issue {form : State → Except Fault State} (ata : Byte) (hf : Asking .responder form) :
    Asking .responder (State.issue ata form) := fun s _ h => (hf (s := { s with tAta := ata }) h).after rfl

/-- A rule that only drops the frame (R153). -/
theorem asking_dropping (g : State → State) (code : RCode) : Asking .responder (fun s => .ok ((g s).drop code)) := by
  intro s t h
  cases h
  exact .done rfl

/-- The accepting step: the validation's drop, or the form's own rule on the seeded buffer (R98). -/
theorem asking_accept {form : State → Except Fault State} (f : Bool) (cmd : Byte) (h : Header) (rx : List Byte)
    (hf : Asking .responder form) : Asking .responder (State.accept f cmd h rx form) := by
  intro s t ht
  cases hv : s.validate f h with
  | some code =>
    rw [State.accept_drop hv] at ht
    cases ht
    exact .done rfl
  | none =>
    rw [State.accept_ok hv] at ht
    exact (hf ht).after rfl

/-- The accepting step of a response: always dropped in validation (R98). -/
theorem asking_acceptResponse (cmd : Byte) (h : Header) (rx : List Byte) (form : State → Except Fault State) :
    Asking .responder (State.accept true cmd h rx form) := by
  intro s t ht
  obtain ⟨code, hv⟩ := s.validate_response h
  rw [State.accept_drop hv] at ht
  cases ht
  exact .done rfl

/-- A frame without a form (R98, R103). -/
theorem asking_acceptUndecoded (e : DecodeError) (rx : List Byte) : Asking .responder (State.acceptUndecoded e rx) := by
  cases e with
  | shortFrame => exact asking_dropping (State.latch rx) .dropShort
  | shortIssue h => exact asking_accept _ _ _ _ (asking_dropping id .dropIssueShort)
  | noRow h c => exact asking_acceptResponse _ _ _ _

/-- A frame of any form or none is offered to a responder's rule that asks for what it awaits. -/
theorem takeFrame_asks (rx : List Byte) :
    ∃ rx' f g, Asking .responder f ∧ ∀ s : State, s.takeFrame rx = s.offer rx' f g := by
  unfold State.takeFrame
  cases decode rx with
  | error e => exact ⟨_, _, _, asking_acceptUndecoded e rx, fun _ => rfl⟩
  | ok i =>
    cases i with
    | queryConfig h q => exact ⟨_, _, _, asking_accept _ _ _ _ asking_queryConfig, fun _ => rfl⟩
    | ataIdentify h sub data =>
      exact ⟨_, _, _, asking_accept _ _ _ _ (asking_issue _ asking_identify), fun _ => rfl⟩
    | ataReadRetry h sub data =>
      exact ⟨_, _, _, asking_accept _ _ _ _ (asking_issue _ (asking_readStart sub)), fun _ => rfl⟩
    | ataWriteRetry h sub data =>
      exact ⟨_, _, _, asking_accept _ _ _ _ (asking_issue _ (asking_writeStart sub)), fun _ => rfl⟩
    | ataUnsupported h ata sub data =>
      exact ⟨_, _, _, asking_accept _ _ _ _ (asking_issue ata (asking_dropping (State.print _) _)), fun _ => rfl⟩
    | aoeUnsupported h command payload =>
      exact ⟨_, _, _, asking_accept _ _ _ _ (asking_dropping (State.print _) _), fun _ => rfl⟩
    | queryResponse h q => exact ⟨_, _, _, asking_acceptResponse _ _ _ _, fun _ => rfl⟩
    | ataResponse h r => exact ⟨_, _, _, asking_acceptResponse _ _ _ _, fun _ => rfl⟩

/-! ### The initiator's rules -/

/-- `complete` awaits no answer (R146). -/
theorem State.complete_ne_txWait (s : State) (r : Bool) (c : CCode) (d : List Byte) :
    (s.complete r c d).cstate ≠ .txWait := by
  rw [State.complete_cstate]
  by_cases hw : s.cstate = .awaitOp ∨ s.cstate = .txWait
  · rw [if_pos hw]
    nofun
  · rw [if_neg hw]
    exact (not_or.mp hw).2

theorem State.stray_ne_txWait {s : State} (hc : s.cstate ≠ .txWait) : s.stray.cstate ≠ .txWait := by
  rcases stray_cases s with h | h | ⟨-, h⟩ <;> rw [h]
  · exact hc
  · exact hc
  · exact State.complete_ne_txWait _ _ _ _

theorem State.decodeResponse_ne_txWait {s t : State} {h : Header} {rx : List Byte} (hc : s.cstate ≠ .txWait)
    (ht : s.decodeResponse h rx = .ok t) : t.cstate ≠ .txWait := by
  unfold State.decodeResponse at ht
  split at ht
  · cases ht
    unfold State.queryAnswered
    split <;> nofun
  · rcases ataAnswered_cases h rx s with hk | ⟨-, cap, r, c, d, hk⟩ <;> rw [hk] at ht <;> cases ht
    · exact hc
    · exact State.complete_ne_txWait _ _ _ _

/-- A frame that an initiator takes begins no wait: it is discarded, decoded or a stray (R127, R137). -/
theorem State.receive_ne_txWait {s t : State} {m : Bool} {h : Header} {rx : List Byte} (hc : s.cstate ≠ .txWait)
    (ht : s.receive m (State.decodeResponse h rx) = .ok t) : t.cstate ≠ .txWait := by
  unfold State.receive at ht
  split at ht
  · split at ht
    · exact State.decodeResponse_ne_txWait hc ht
    · cases ht
      exact State.stray_ne_txWait hc
  · cases ht
    exact hc

theorem State.timedOut_ne_txWait {s : State} (hc : s.cstate ≠ .txWait) : s.timedOut.cstate ≠ .txWait := by
  unfold State.timedOut
  split
  · exact State.complete_ne_txWait _ _ _ _
  · nofun
  · exact hc

/-- The end of a host command: the request goes out (R131). -/
theorem asks_sending {s t u : State} {len : Nat} (h : pure (u.send len) = (.ok t : Except Fault State))
    (hr : u.reqNo = s.reqNo) : Asks .initiator s t := by
  cases h
  exact .request (congrArg (· + 1) hr)

theorem asking_connect : Asking .initiator State.connect := fun _ _ h =>
  .of_bind h quiet_composeHeader fun h => asks_sending h rfl

theorem asking_hostIdentify : Asking .initiator State.hostIdentify := fun _ _ h =>
  .of_bind h quiet_composeHeader fun h => .of_bind h .of_txWrite fun h => .of_bind h .of_txWrite fun h =>
    asks_sending h rfl

theorem asking_hostRead (sector count : Nat) : Asking .initiator (State.hostRead sector count) := by
  intro s t h
  unfold State.hostRead at h
  split at h
  · exact .of_bind h quiet_composeHeader fun h => .of_bind h .of_txWrite fun h => .of_bind h .of_txWrite fun h =>
      .of_bind h .of_txWrite fun h => asks_sending h rfl
  · cases h
    exact .ends (State.complete_ne_txWait _ _ _ _)

theorem asking_hostWrite (sector count : Nat) (w : List Byte) : Asking .initiator (State.hostWrite sector count w) := by
  intro s t h
  unfold State.hostWrite at h
  split at h
  · exact .of_bind h quiet_composeHeader fun h => .of_bind h .of_txWrite fun h => .of_bind h .of_txWrite fun h =>
      .of_bind h .of_txWrite fun h => .of_bind h .of_txWrite fun h => .of_bind h quiet_setWindows fun h =>
        asks_sending h rfl
  · cases h
    exact .ends (State.complete_ne_txWait _ _ _ _)

/-- A host command issues the request whose answer it leaves the initiator waiting for (R128, R131). -/
theorem asks_hostCommand {s t : State} {cmd : HostCmd} (hc : s.cstate ≠ .txWait) (h : s.hostCommand cmd = .ok t) :
    Asks .initiator s t := by
  have operation {op : State → Except Fault State} (hop : Asking .initiator op) (h : s.operation op = .ok t) :
      Asks .initiator s t := by
    unfold State.operation at h
    split at h
    · exact hop h
    · cases h
      exact .ends hc
  cases cmd with
  | connect => exact asking_connect h
  | identify => exact operation asking_hostIdentify h
  | read sector count => exact operation (asking_hostRead sector count) h
  | write sector count w => exact operation (asking_hostWrite sector count w) h

/-! ### One accepted input, and a step -/

/-- `RESET` ends every wait and, with an announce, begins one for a new request (R122, R167, R168). -/
theorem asks_doReset {s t : State} (h : s.doReset = .ok t) : Asks s.cfg.role s t := by
  rw [State.doReset_eq] at h
  cases h
  cases ha : announces s.cfg with
  | true => exact .request (congrArg (s.reqNo + ·) (if_pos ha))
  | false =>
    cases s.cfg.role with
    | responder => exact .idle (by simp [State.resetOf, resetRState, ha])
    | initiator => exact .ends nofun

theorem asks_takeFrame {s t : State} {rx : List Byte} (ha : s.accepts (.frame rx) = true)
    (h : s.takeFrame rx = .next t) : Asks s.cfg.role s t := by
  cases hr : s.cfg.role with
  | initiator =>
    obtain ⟨hf, hc⟩ := (State.accepts_frame_initiator hr rx).mp ha
    rw [takeFrame_initiator hr hc hf] at h
    exact .ends (State.receive_ne_txWait hc ((toOutcome_next_iff _ _).mp h))
  | responder =>
    obtain ⟨-, hidle⟩ := (State.accepts_frame_responder hr rx).mp ha
    obtain ⟨rx', f, g, hf, he⟩ := takeFrame_asks rx
    rw [he] at h
    rcases s.offer_cases rx' f g with ho | ⟨-, ho⟩ | ⟨hr', -, -⟩
    · rw [ho] at h
      cases h
      exact .idle hidle
    · rw [ho] at h
      exact hf ((toOutcome_next_iff _ _).mp h)
    · simp [hr] at hr'

/-- Taking an input in a state that awaits no answer: no answer is accepted there, and every other rule asks for what it
awaits. -/
theorem asks_take {s t : State} {i : Input} (hs : ¬ s.Waits) (ha : s.accepts i = true) (h : s.take i = .next t) :
    Asks s.cfg.role s t := by
  cases i with
  | reset => exact asks_doReset ((toOutcome_next_iff _ _).mp h)
  | frame rx => exact asks_takeFrame ha h
  | host cmd =>
    have hr := State.role_of_accepts_host ha
    obtain ⟨hc, -⟩ := (State.accepts_host_initiator hr cmd).mp ha
    rw [hr]
    exact asks_hostCommand hc ((toOutcome_next_iff _ _).mp h)
  | timeout =>
    cases h
    have hr := State.role_of_accepts_timeout ha
    rw [State.Waits, hr] at hs
    rw [hr]
    exact .ends (State.timedOut_ne_txWait hs)
  | txAnswer n ok => exact absurd (State.waits_of_accepts_txAnswer ha).2 hs
  | readAnswer n ok d => exact absurd (State.waits_of_accepts_readAnswer ha).2 hs
  | writeAnswer n ok => exact absurd (State.waits_of_accepts_writeAnswer ha).2 hs

/-- A step that begins a wait issues the request whose answer is awaited (R27). -/
theorem wait_begins_with_request {s t : State} (hs : ¬ s.Waits) (h : step s = .next t) (ht : t.Waits) :
    t.reqNo = s.reqNo + 1 := by
  rw [State.Waits, step_cfg h] at ht
  rcases step_cases s with ⟨hd, -, he⟩ | ⟨-, he⟩ | ⟨i, rest, ha, -, -, he⟩ <;> rw [he] at h
  · cases h
    rw [State.role_of_clearDue hd] at ht
    exact absurd rfl ht.1
  · cases h
    exact absurd ht hs
  · exact asks_take (s := { s with inputs := rest }) hs ha h ht

/-- No step takes a request's number back. -/
theorem reqNo_le_of_step {s t : State} (h : step s = .next t) : s.reqNo ≤ t.reqNo := by
  obtain ⟨es, -, -, hr, -⟩ := puts_step h
  exact hr ▸ Nat.le_add_right _ _

/-! ### The statement -/

/-- The requests up to `n` are issued, and none of them is awaited. -/
structure State.Abandoned (n : Nat) (s : State) : Prop where
  issued : n ≤ s.reqNo
  later  : s.Waits → n < s.reqNo

theorem State.Abandoned.of_reset {s t : State} {rest : List Input} (hin : s.inputs = .reset :: rest)
    (h : step s = .next t) : t.Abandoned s.reqNo where
  issued := reqNo_le_of_step h
  later hw := by
    have hcfg := step_cfg h
    rw [step_reset hin] at h
    rw [State.Waits, hcfg] at hw
    exact Nat.lt_of_succ_le (asks_doReset ((toOutcome_next_iff _ _).mp h) hw).ge

theorem State.Abandoned.of_step {n : Nat} {s t : State} (hs : s.Abandoned n) (h : step s = .next t) :
    t.Abandoned n where
  issued := hs.issued.trans (reqNo_le_of_step h)
  later ht := by
    by_cases hw : s.Waits
    · exact (hs.later hw).trans_le (reqNo_le_of_step h)
    · rw [wait_begins_with_request hw h ht]
      exact Nat.lt_succ_of_le hs.issued

/-- An answer is accepted only to the last request, and only in a wait; `n` is behind it. -/
theorem State.Abandoned.not_awaited {m n : Nat} {s : State} (hs : s.Abandoned m) (hn : n ≤ m) :
    ¬ (n = s.reqNo ∧ s.Waits) := by
  rintro ⟨rfl, hw⟩
  exact absurd (hs.later hw) (Nat.not_lt.mpr hn)

/-- Settles O9: after `RESET` and along every run from there, the requests issued before it are abandoned. -/
theorem abandonedAnswersAreNeverTaken : Obligations.AbandonedAnswersAreNeverTaken := by
  intro s t u rest k n hin hstep hrun hn ok d
  have hu : u.Abandoned s.reqNo :=
    run_keeps (fun _ _ => State.Abandoned.of_step) (State.Abandoned.of_reset hin hstep) hrun
  have none_awaited := hu.not_awaited hn
  exact ⟨Bool.eq_false_iff.mpr fun h => none_awaited (State.waits_of_accepts_txAnswer h),
    Bool.eq_false_iff.mpr fun h => none_awaited (State.waits_of_accepts_readAnswer h),
    Bool.eq_false_iff.mpr fun h => none_awaited (State.waits_of_accepts_writeAnswer h)⟩

end Sys2Proof.Machine
